-- ==== Sys2Proof/Word.lean ====
section
/-! DEFINITION. The byte and the byte sequence: the only word types of FC (spec/00_scope.md R13, R14). -/

namespace Sys2Proof

/-- R13: a byte, an integer in 0..255; bit 7 is the most significant, bit 0 the least. -/
abbrev Byte := BitVec 8

/-- R14: a finite sequence of bytes, index 0 first on the wire. -/
abbrev Bytes := List Byte

end Sys2Proof
end

