-- ==== Sys2Proof/Config.lean ====
section
/-! DEFINITION. What is fixed before reset: the constants of R10, the parameters of R11 with their defaults, and the
free values that the spec leaves unspecified (no body: nothing can evaluate them). -/

namespace Sys2Proof

/-! ## Constants (R10) -/

/-- R10, R82: `HDR0`, the first header byte. -/
def hdr0 : Byte := 0x57#8

/-- R10, R82: `HDR1`, the second header byte. -/
def hdr1 : Byte := 0xAB#8

/-- R10, R84: `RESP_BIT`, the direction bit of CMD. -/
def respBit : Byte := 0x80#8

/-- R10: `MAX_PAYLOAD`. -/
def maxPayload : Nat := 255

/-- R10, R81: `FRAME_OVERHEAD`. -/
def frameOverhead : Nat := 6

/-- R10, R81: `MAX_FRAME`. -/
def maxFrame : Nat := 261

/-- R10, R265: at most six keycodes in a KeyReport. -/
def maxKeys : Nat := 6

/-- R10, R213: the width of the two DeviceConfig strings. -/
def zstrWidth : Nat := 8

/-! ## The commands and the frame -/

/-- R91: the closed enumeration of command names. -/
inductive Command where
  | getInfo | sendKbGeneral | sendMsAbs | sendMsRel | getParaCfg
  | setParaCfg | getUsbString | setUsbString | setDefaultCfg | reset
  deriving DecidableEq, Repr

/-- R91: the ten commands, in the table's order. -/
def allCommands : List Command :=
  [.getInfo, .sendKbGeneral, .sendMsAbs, .sendMsRel, .getParaCfg,
   .setParaCfg, .getUsbString, .setUsbString, .setDefaultCfg, .reset]

/-- R23, R80: one frame in the source's record shape; `header` is the two header bytes as 16 bits. -/
structure Frame where
  header  : BitVec 16
  addr    : Byte
  cmd     : Byte
  len     : Byte
  payload : Bytes
  sum     : Byte
  deriving DecidableEq, Repr, Inhabited

/-- R24: `TXR`, the transmit operand registers, the operands of one ENCODE. -/
structure TxOperands where
  addr    : Byte
  cmd     : Byte
  payload : Bytes
  deriving DecidableEq, Repr, Inhabited

/-! ## Layout parameters -/

/-- R201: the sixteen components of DeviceConfig. -/
inductive CfgField where
  | workMode | serialMode | chipAddr | addrRsvd | baud | packetInterval | vid | pid
  | kbSubmitInterval | kbReleaseDelay | autoEnter | enterChars | filter | descEnable | fastSubmit | tailRsvd
  deriving DecidableEq, Repr

/-- R201: the components in the order of the table. -/
def allCfgFields : List CfgField :=
  [.workMode, .serialMode, .chipAddr, .addrRsvd, .baud, .packetInterval, .vid, .pid,
   .kbSubmitInterval, .kbReleaseDelay, .autoEnter, .enterChars, .filter, .descEnable, .fastSubmit, .tailRsvd]

/-- R15, R53: the order of a multi-byte field's numeric view. -/
inductive ByteOrder where
  | be | le
  deriving DecidableEq, Repr

/-- R201: the `kind` column, with the `order` column where there is one. -/
inductive CfgKind where
  | u8 | bytes (order : ByteOrder) | flag | mask | zstr | rsvd
  deriving DecidableEq, Repr

/-- R201: one row of `CFG_LAYOUT`. -/
structure CfgRow where
  field  : CfgField
  offset : Nat
  width  : Nat
  kind   : CfgKind
  deriving DecidableEq, Repr

/-- R212: `DESC_EN_BITS`, the bit of `desc_enable` for each descriptor. -/
structure DescBits where
  vendor  : Nat
  product : Nat
  serial  : Nat
  deriving DecidableEq, Repr

/-- R261: `INFO_LAYOUT`, the offsets of the DeviceInfo bytes and the lock bits inside the third. -/
structure InfoLayout where
  version   : Nat
  usb       : Nat
  locks     : Nat
  numBit    : Nat
  capsBit   : Nat
  scrollBit : Nat
  deriving DecidableEq, Repr

/-- R266: what one byte of `KB_LAYOUT` holds; `key i` is the i-th key slot, `0x00` when the list is shorter. -/
inductive KbByte where
  | modifier | fixed (b : Byte) | key (i : Nat)
  deriving DecidableEq, Repr

/-- R270: what one byte of `MS_REL_LAYOUT` holds. -/
inductive MsRelByte where
  | fixed (b : Byte) | buttons | dx | dy | wheel
  deriving DecidableEq, Repr

/-- R274: what one byte of `MS_ABS_LAYOUT` holds; `x 0` is the low byte of x and `x 1` the high byte. -/
inductive MsAbsByte where
  | fixed (b : Byte) | buttons | x (i : Nat) | y (i : Nat) | wheel
  deriving DecidableEq, Repr

/-! ## The parameters (R11) -/

/-- R11: every open quantity of the source, one field each. -/
structure Params where
  devAddr          : Byte
  corrAddr         : Bool
  rxbufCap         : Option Nat
  flushOnRequest   : Bool
  cmdGetInfo       : Byte
  cmdSendKbGeneral : Byte
  cmdSendMsAbs     : Byte
  cmdSendMsRel     : Byte
  cmdGetParaCfg    : Byte
  cmdSetParaCfg    : Byte
  cmdGetUsbString  : Byte
  cmdSetUsbString  : Byte
  cmdSetDefaultCfg : Byte
  cmdReset         : Byte
  statusOk         : Byte
  infoSize         : Nat
  infoLayout       : InfoLayout
  cfgSize          : Nat
  cfgLayout        : List CfgRow
  descEnBits       : DescBits
  strMax           : Nat
  kbLayout         : List KbByte
  msRelLayout      : List MsRelByte
  msAbsLayout      : List MsAbsByte
  readMax          : Nat
  deriving DecidableEq, Repr

/-- R91: the request code of a command. -/
def Params.code (par : Params) : Command → Byte
  | .getInfo       => par.cmdGetInfo
  | .sendKbGeneral => par.cmdSendKbGeneral
  | .sendMsAbs     => par.cmdSendMsAbs
  | .sendMsRel     => par.cmdSendMsRel
  | .getParaCfg    => par.cmdGetParaCfg
  | .setParaCfg    => par.cmdSetParaCfg
  | .getUsbString  => par.cmdGetUsbString
  | .setUsbString  => par.cmdSetUsbString
  | .setDefaultCfg => par.cmdSetDefaultCfg
  | .reset         => par.cmdReset

/-- R201: the default `CFG_LAYOUT`: the fields of the source's §6 packed in order, no gaps (log entry 5). -/
def defaultCfgLayout (cfgSize : Nat) : List CfgRow :=
  [⟨.workMode, 0, 1, .u8⟩,
   ⟨.serialMode, 1, 1, .u8⟩,
   ⟨.chipAddr, 2, 1, .u8⟩,
   ⟨.addrRsvd, 3, 3, .rsvd⟩,
   ⟨.baud, 6, 4, .bytes .be⟩,
   ⟨.packetInterval, 10, 2, .bytes .be⟩,
   ⟨.vid, 12, 2, .bytes .le⟩,
   ⟨.pid, 14, 2, .bytes .le⟩,
   ⟨.kbSubmitInterval, 16, 2, .bytes .be⟩,
   ⟨.kbReleaseDelay, 18, 2, .bytes .be⟩,
   ⟨.autoEnter, 20, 1, .flag⟩,
   ⟨.enterChars, 21, 8, .zstr⟩,
   ⟨.filter, 29, 8, .zstr⟩,
   ⟨.descEnable, 37, 1, .mask⟩,
   ⟨.fastSubmit, 38, 1, .flag⟩,
   ⟨.tailRsvd, 39, cfgSize - 39, .rsvd⟩]

/-- R11: the defaults of the parameter table (their origins: log entries 4 to 6; `READ_MAX` is log entry 7). -/
def Params.default : Params where
  devAddr          := 0x00#8
  corrAddr         := false
  rxbufCap         := none
  flushOnRequest   := false
  cmdGetInfo       := 0x01#8
  cmdSendKbGeneral := 0x02#8
  cmdSendMsAbs     := 0x04#8
  cmdSendMsRel     := 0x05#8
  cmdGetParaCfg    := 0x08#8
  cmdSetParaCfg    := 0x09#8
  cmdGetUsbString  := 0x0A#8
  cmdSetUsbString  := 0x0B#8
  cmdSetDefaultCfg := 0x0C#8
  cmdReset         := 0x0F#8
  statusOk         := 0x00#8
  infoSize         := 10
  infoLayout       := ⟨0, 1, 2, 0, 1, 2⟩
  cfgSize          := 50
  cfgLayout        := defaultCfgLayout 50
  descEnBits       := ⟨2, 1, 0⟩
  strMax           := 23
  kbLayout         := [.modifier, .fixed 0x00#8, .key 0, .key 1, .key 2, .key 3, .key 4, .key 5]
  msRelLayout      := [.fixed 0x01#8, .buttons, .dx, .dy, .wheel]
  msAbsLayout      := [.fixed 0x02#8, .buttons, .x 0, .x 1, .y 0, .y 1, .wheel]
  readMax          := 64

/-! ## Free values -/

/-- R23, U8: what the fields of `FR` hold after a parse that delivered no frame (log entry 2); the argument is the
state's counter of free values. -/
opaque Config.freeFrame : Nat → Frame

/-- R24, U8: what `TXR` holds once the ENCODE that read it has ended (log entry 3). -/
opaque Config.freeTxr : Nat → TxOperands

end Sys2Proof
end

