-- ==== Sys2Proof/Syntax.lean ====
section
/-! DEFINITION. The wire commands: one constructor per row of spec/opcode_table.json (R88, R93). Every row leaves ADDR
free; DATA is carried as bytes, uninterpreted, as the codec carries it (R86), and is absent where the row fixes LEN = 0. -/

namespace Sys2Proof

/-- R166 to R185: the ten request frames FC sends and the ten response frames it acts on. -/
inductive Instr where
  | reqGetInfo       (addr : Byte)
  | rspGetInfo       (addr : Byte) (data : Bytes)
  | reqSendKbGeneral (addr : Byte) (data : Bytes)
  | rspSendKbGeneral (addr : Byte) (data : Bytes)
  | reqSendMsAbs     (addr : Byte) (data : Bytes)
  | rspSendMsAbs     (addr : Byte) (data : Bytes)
  | reqSendMsRel     (addr : Byte) (data : Bytes)
  | rspSendMsRel     (addr : Byte) (data : Bytes)
  | reqGetParaCfg    (addr : Byte)
  | rspGetParaCfg    (addr : Byte) (data : Bytes)
  | reqSetParaCfg    (addr : Byte) (data : Bytes)
  | rspSetParaCfg    (addr : Byte) (data : Bytes)
  | reqGetUsbString  (addr : Byte) (data : Bytes)
  | rspGetUsbString  (addr : Byte) (data : Bytes)
  | reqSetUsbString  (addr : Byte) (data : Bytes)
  | rspSetUsbString  (addr : Byte) (data : Bytes)
  | reqSetDefaultCfg (addr : Byte)
  | rspSetDefaultCfg (addr : Byte) (data : Bytes)
  | reqReset         (addr : Byte)
  | rspReset         (addr : Byte) (data : Bytes)
  deriving DecidableEq, Repr

/-- The row's mnemonic in spec/opcode_table.json. -/
def Instr.mnemonic : Instr → String
  | .reqGetInfo _         => "REQ_GET_INFO"
  | .rspGetInfo _ _       => "RSP_GET_INFO"
  | .reqSendKbGeneral _ _ => "REQ_SEND_KB_GENERAL"
  | .rspSendKbGeneral _ _ => "RSP_SEND_KB_GENERAL"
  | .reqSendMsAbs _ _     => "REQ_SEND_MS_ABS"
  | .rspSendMsAbs _ _     => "RSP_SEND_MS_ABS"
  | .reqSendMsRel _ _     => "REQ_SEND_MS_REL"
  | .rspSendMsRel _ _     => "RSP_SEND_MS_REL"
  | .reqGetParaCfg _      => "REQ_GET_PARA_CFG"
  | .rspGetParaCfg _ _    => "RSP_GET_PARA_CFG"
  | .reqSetParaCfg _ _    => "REQ_SET_PARA_CFG"
  | .rspSetParaCfg _ _    => "RSP_SET_PARA_CFG"
  | .reqGetUsbString _ _  => "REQ_GET_USB_STRING"
  | .rspGetUsbString _ _  => "RSP_GET_USB_STRING"
  | .reqSetUsbString _ _  => "REQ_SET_USB_STRING"
  | .rspSetUsbString _ _  => "RSP_SET_USB_STRING"
  | .reqSetDefaultCfg _   => "REQ_SET_DEFAULT_CFG"
  | .rspSetDefaultCfg _ _ => "RSP_SET_DEFAULT_CFG"
  | .reqReset _           => "REQ_RESET"
  | .rspReset _ _         => "RSP_RESET"

/-- R83: the ADDR byte. -/
def Instr.addr : Instr → Byte
  | .reqGetInfo a | .rspGetInfo a _ | .reqSendKbGeneral a _ | .rspSendKbGeneral a _ | .reqSendMsAbs a _
  | .rspSendMsAbs a _ | .reqSendMsRel a _ | .rspSendMsRel a _ | .reqGetParaCfg a | .rspGetParaCfg a _
  | .reqSetParaCfg a _ | .rspSetParaCfg a _ | .reqGetUsbString a _ | .rspGetUsbString a _ | .reqSetUsbString a _
  | .rspSetUsbString a _ | .reqSetDefaultCfg a | .rspSetDefaultCfg a _ | .reqReset a | .rspReset a _ => a

/-- R86: the DATA bytes. -/
def Instr.data : Instr → Bytes
  | .reqGetInfo _ | .reqGetParaCfg _ | .reqSetDefaultCfg _ | .reqReset _ => []
  | .rspGetInfo _ d | .reqSendKbGeneral _ d | .rspSendKbGeneral _ d | .reqSendMsAbs _ d
  | .rspSendMsAbs _ d | .reqSendMsRel _ d | .rspSendMsRel _ d | .rspGetParaCfg _ d
  | .reqSetParaCfg _ d | .rspSetParaCfg _ d | .reqGetUsbString _ d | .rspGetUsbString _ d | .reqSetUsbString _ d
  | .rspSetUsbString _ d | .rspSetDefaultCfg _ d | .rspReset _ d => d

/-- R91: the command the frame belongs to. -/
def Instr.command : Instr → Command
  | .reqGetInfo _ | .rspGetInfo _ _ => .getInfo
  | .reqSendKbGeneral _ _ | .rspSendKbGeneral _ _ => .sendKbGeneral
  | .reqSendMsAbs _ _ | .rspSendMsAbs _ _ => .sendMsAbs
  | .reqSendMsRel _ _ | .rspSendMsRel _ _ => .sendMsRel
  | .reqGetParaCfg _ | .rspGetParaCfg _ _ => .getParaCfg
  | .reqSetParaCfg _ _ | .rspSetParaCfg _ _ => .setParaCfg
  | .reqGetUsbString _ _ | .rspGetUsbString _ _ => .getUsbString
  | .reqSetUsbString _ _ | .rspSetUsbString _ _ => .setUsbString
  | .reqSetDefaultCfg _ | .rspSetDefaultCfg _ _ => .setDefaultCfg
  | .reqReset _ | .rspReset _ _ => .reset

/-- R84: the direction: true for a response, false for a request. -/
def Instr.isResponse : Instr → Bool
  | .rspGetInfo _ _ | .rspSendKbGeneral _ _ | .rspSendMsAbs _ _ | .rspSendMsRel _ _ | .rspGetParaCfg _ _
  | .rspSetParaCfg _ _ | .rspGetUsbString _ _ | .rspSetUsbString _ _ | .rspSetDefaultCfg _ _ | .rspReset _ _ => true
  | .reqGetInfo _ | .reqSendKbGeneral _ _ | .reqSendMsAbs _ _ | .reqSendMsRel _ _ | .reqGetParaCfg _
  | .reqSetParaCfg _ _ | .reqGetUsbString _ _ | .reqSetUsbString _ _ | .reqSetDefaultCfg _ | .reqReset _ => false

end Sys2Proof
end

