-- ==== Sys2Proof/WellFormed.lean ====
section
/-! DEFINITION. Which parameters an instantiation may take (R12) and which instruction terms stand for a frame of their
row of the opcode table (R80, R85, R93). -/

namespace Sys2Proof

/-! ## Parameters (R12) -/

/-- R201: the kind a component's row must have. -/
def CfgField.kindFits : CfgField → CfgKind → Bool
  | .workMode, .u8 | .serialMode, .u8 | .chipAddr, .u8 => true
  | .addrRsvd, .rsvd | .tailRsvd, .rsvd => true
  | .baud, .bytes _ | .packetInterval, .bytes _ | .vid, .bytes _ | .pid, .bytes _ => true
  | .kbSubmitInterval, .bytes _ | .kbReleaseDelay, .bytes _ => true
  | .autoEnter, .flag | .fastSubmit, .flag => true
  | .enterChars, .zstr | .filter, .zstr => true
  | .descEnable, .mask => true
  | _, _ => false

/-- R201, R213: one-byte kinds are one byte wide and the strings eight. -/
def CfgRow.widthFits (r : CfgRow) : Bool :=
  match r.kind with
  | .u8 | .flag | .mask => r.width == 1
  | .zstr => r.width == zstrWidth
  | .bytes _ | .rsvd => true

/-- The row's range holds the offset. -/
def CfgRow.covers (r : CfgRow) (o : Nat) : Bool :=
  decide (r.offset ≤ o) && decide (o < r.offset + r.width)

/-- R12: every component has one row of its kind inside `[0, CFG_SIZE)`, and the rows cover every offset exactly once. -/
def Params.cfgLayoutOk (par : Params) : Bool :=
  (allCfgFields.all fun f => (par.cfgLayout.filter fun r => r.field == f).length == 1) &&
  (par.cfgLayout.all fun r =>
    r.field.kindFits r.kind && r.widthFits && decide (r.offset + r.width ≤ par.cfgSize)) &&
  ((List.range par.cfgSize).all fun o => (par.cfgLayout.filter fun r => r.covers o).length == 1)

/-- R12: the ten request codes are pairwise distinct and have bit 7 clear. -/
def Params.codesOk (par : Params) : Bool :=
  (allCommands.all fun c => !(par.code c).msb) &&
  (allCommands.all fun c => allCommands.all fun d => (par.code c == par.code d) == (c == d))

/-- R12: the three descriptor bits are distinct and in 0..7. -/
def Params.descBitsOk (par : Params) : Bool :=
  decide (par.descEnBits.vendor < 8) && decide (par.descEnBits.product < 8) && decide (par.descEnBits.serial < 8) &&
  par.descEnBits.vendor != par.descEnBits.product && par.descEnBits.vendor != par.descEnBits.serial &&
  par.descEnBits.product != par.descEnBits.serial

/-- R22: a finite capacity holds the largest frame. -/
def Params.capOk (par : Params) : Bool :=
  match par.rxbufCap with
  | none => true
  | some c => decide (maxFrame ≤ c)

/-- R260, R261: DeviceInfo fits a payload and its interpreted bytes lie inside it. -/
def Params.infoOk (par : Params) : Bool :=
  decide (3 ≤ par.infoSize) && decide (par.infoSize ≤ maxPayload) &&
  decide (par.infoLayout.version < par.infoSize) && decide (par.infoLayout.usb < par.infoSize) &&
  decide (par.infoLayout.locks < par.infoSize) &&
  decide (par.infoLayout.numBit < 8) && decide (par.infoLayout.capsBit < 8) && decide (par.infoLayout.scrollBit < 8)

/-- R12 (with the bounds of R11's table): every record fits a payload and the rules are consistent. -/
def Params.wf (par : Params) : Bool :=
  par.capOk && par.codesOk && par.infoOk &&
  decide (39 ≤ par.cfgSize) && decide (par.cfgSize ≤ maxPayload) && par.cfgLayoutOk && par.descBitsOk &&
  decide (par.strMax + 2 ≤ maxPayload) &&
  decide (par.kbLayout.length ≤ maxPayload) && decide (par.msRelLayout.length ≤ maxPayload) &&
  decide (par.msAbsLayout.length ≤ maxPayload) && decide (0 < par.readMax)

/-! ## Instructions -/

/-- R80, R85, R93: the term stands for a frame of its row: DATA has at most 255 bytes, and `INFO_SIZE` of them in the
get-info response, whose row fixes LEN. -/
def Instr.wellFormed (par : Params) : Instr → Bool
  | .reqGetInfo _ | .reqGetParaCfg _ | .reqSetDefaultCfg _ | .reqReset _ => true
  | .rspGetInfo _ d => d.length == par.infoSize
  | .reqSendKbGeneral _ d | .rspSendKbGeneral _ d | .reqSendMsAbs _ d | .rspSendMsAbs _ d
  | .reqSendMsRel _ d | .rspSendMsRel _ d | .rspGetParaCfg _ d | .reqSetParaCfg _ d | .rspSetParaCfg _ d
  | .reqGetUsbString _ d | .rspGetUsbString _ d | .reqSetUsbString _ d | .rspSetUsbString _ d
  | .rspSetDefaultCfg _ d | .rspReset _ d => decide (d.length ≤ maxPayload)

end Sys2Proof
end

