-- ==== Sys2Proof/Machine/Operands.lean ====
section
/-! DEFINITION. How operands are put into and taken out of bytes (R13 to R16, R89): slices, byte orders, two's
complement, zero-padded strings, and the direction bit. -/

namespace Sys2Proof.Machine

/-- R14: `rep(x, n)`. -/
def rep (x : Byte) (n : Nat) : Bytes := List.replicate n x

/-- R14: `b[i..j)`. -/
def slice (b : Bytes) (i j : Nat) : Bytes := (b.take j).drop i

/-- R14: `b[i]`; every caller stays inside the sequence. -/
def byteAt (b : Bytes) (i : Nat) : Byte := b.getD i 0#8

/-- R16: `MemRead(i, n)`, the `n` bytes from index `i`. -/
def memRead (b : Bytes) (i n : Nat) : Bytes := slice b i (i + n)

/-- R16: `MemWrite(i, n, v)` with `n = len(v)`; defined only inside the sequence, outside it nothing is replaced. -/
def memWrite (b : Bytes) (i : Nat) (v : Bytes) : Bytes :=
  if i + v.length ≤ b.length then b.take i ++ v ++ b.drop (i + v.length) else b

/-- R15: `le(b)`. -/
def leNat : Bytes → Nat
  | [] => 0
  | b :: bs => b.toNat + 256 * leNat bs

/-- R15: `be(b)`. -/
def beNat (b : Bytes) : Nat := leNat b.reverse

/-- R15: `to_le(v, n)`. -/
def toLe : Nat → Nat → Bytes
  | 0, _ => []
  | n + 1, v => BitVec.ofNat 8 v :: toLe n (v / 256)

/-- R15: `to_be(v, n)`. -/
def toBe (n v : Nat) : Bytes := (toLe n v).reverse

/-- R13: `tc8(s)`, two's complement. -/
def tc8 (s : Int) : Byte := BitVec.ofInt 8 s

/-- R13: `from_tc8(b)`. -/
def fromTc8 (b : Byte) : Int := if b.toNat < 128 then (b.toNat : Int) else (b.toNat : Int) - 256

/-- R113: in -128..127. -/
def inI8 (v : Int) : Bool := decide (-128 ≤ v) && decide (v ≤ 127)

/-- R113: in 0..255. -/
def inU8 (v : Int) : Bool := decide (0 ≤ v) && decide (v ≤ 255)

/-- R113: in 0..65535. -/
def inU16 (v : Int) : Bool := decide (0 ≤ v) && decide (v ≤ 65535)

/-- R210: a flag byte reads true iff it is not `0x00`. -/
def flagOf (b : Byte) : Bool := b != 0#8

/-- R210: a flag is written as `0x01` or `0x00`. -/
def flagByte (t : Bool) : Byte := if t then 0x01#8 else 0x00#8

/-- R212: bit `k` of a mask byte. -/
def maskBit (b : Byte) (k : Nat) : Bool := b.getLsbD k

/-- R212: the mask byte with bit `k` set to `t` and the other seven unchanged. -/
def setMaskBit (b : Byte) (k : Nat) (t : Bool) : Byte :=
  if t then b ||| (1#8 <<< k) else b &&& ~~~(1#8 <<< k)

/-- R214: ZPAD. -/
def zpad (s : Bytes) (w : Nat) : Bytes :=
  if w ≤ s.length then s.take w else s ++ rep 0x00#8 (w - s.length)

/-- R215: ZSTRIP removes the trailing `0x00` bytes and no other. -/
def zstrip : Bytes → Bytes
  | [] => []
  | b :: bs =>
    match zstrip bs with
    | [] => if b = 0x00#8 then [] else [b]
    | c :: cs => b :: c :: cs

/-- R162, R92: `RESP(C) = C | 0x80`. -/
def respCode (c : Byte) : Byte := c ||| respBit

/-- R84: the command number with the direction bit clear. -/
def reqCode (c : Byte) : Byte := c &&& 0x7F#8

end Sys2Proof.Machine
end

