-- ==== Sys2Proof/Machine/Frames.lean ====
section
/-! DEFINITION. The frame codec's pure functions: SUM8, ENCODE, VALID_FRAME (R111 to R117), FIND_HEADER, TRY_PARSE
(R131 to R139), CORRELATE (R163), the canonical segmentation (R144) and the byte-serial parser (R150). -/

namespace Sys2Proof.Machine

/-! ## SUM8, ENCODE, VALID_FRAME -/

/-- R111: one turn of SUM8's loop: `ACC <- (ACC + b[i]) mod 256`. -/
def sum8From (acc : Byte) : Bytes → Byte
  | [] => acc
  | b :: bs => sum8From (acc + b) bs

/-- R111: SUM8; the accumulator `ACC` (R25) starts at 0. -/
def sum8 (b : Bytes) : Byte := sum8From 0#8 b

/-- R80: the bytes of a frame before SUM. -/
def framePrefix (addr cmd : Byte) (payload : Bytes) : Bytes :=
  [hdr0, hdr1, addr, cmd, BitVec.ofNat 8 payload.length] ++ payload

/-- R80, R87: a whole frame: the prefix and its SUM. -/
def frameBytes (addr cmd : Byte) (payload : Bytes) : Bytes :=
  framePrefix addr cmd payload ++ [sum8 (framePrefix addr cmd payload)]

/-- R115: ENCODE; `none` is EncodingError(PayloadTooLong), the only error for operands of the port's widths. -/
def encodeFrame (addr cmd : Byte) (payload : Bytes) : Option Bytes :=
  if maxPayload < payload.length then none else some (frameBytes addr cmd payload)

/-- R117: VALID_FRAME. -/
def validFrame (f : Bytes) : Bool :=
  decide (6 ≤ f.length) && byteAt f 0 == hdr0 && byteAt f 1 == hdr1 &&
  (byteAt f 4).toNat == f.length - 6 &&
  byteAt f (f.length - 1) == sum8 (slice f 0 (f.length - 1))

/-! ## FIND_HEADER, TRY_PARSE -/

/-- R131: FIND_HEADER, the least index at which the two header bytes stand next to each other. -/
def findHeader : Bytes → Option Nat
  | [] => none
  | [_] => none
  | a :: b :: rest => if a = hdr0 ∧ b = hdr1 then some 0 else (findHeader (b :: rest)).map (· + 1)

/-- R33: the outcome of a parse. -/
inductive ParseOutcome where
  | frameOk | sumError | incomplete | noHeader
  deriving DecidableEq, Repr

/-- R133: what TRY_PARSE returns: the frame, the consumed count, the outcome. -/
structure ParseResult where
  frame    : Option Frame
  consumed : Nat
  outcome  : ParseOutcome
  deriving DecidableEq, Repr

/-- R133: the fields of the candidate at header index `h`. -/
def candidate (buf : Bytes) (h : Nat) : Frame :=
  let len := byteAt buf (h + 4)
  { header  := hdr0 ++ hdr1
    addr    := byteAt buf (h + 2)
    cmd     := byteAt buf (h + 3)
    len     := len
    payload := slice buf (h + 5) (h + 5 + len.toNat)
    sum     := byteAt buf (h + 5 + len.toNat) }

/-- R138: `consumed` when there is no header: a final `0x57` is kept. -/
def noHeaderConsumed (buf : Bytes) : Nat :=
  if buf.getLast? = some hdr0 then buf.length - 1 else buf.length

/-- R133: TRY_PARSE as a function of the buffer (its write of `FR` is `State.loadFr`). -/
def tryParse (buf : Bytes) : ParseResult :=
  match findHeader buf with
  | none => ⟨none, noHeaderConsumed buf, .noHeader⟩
  | some h =>
    if buf.length - h < 5 then ⟨none, 0, .incomplete⟩
    else
      let t := 6 + (byteAt buf (h + 4)).toNat
      if buf.length - h < t then ⟨none, 0, .incomplete⟩
      else if sum8 (slice buf h (h + t - 1)) = byteAt buf (h + t - 1) then
        ⟨some (candidate buf h), h + t, .frameOk⟩
      else ⟨none, h + t, .sumError⟩

/-! ## CORRELATE -/

/-- R26: what `PEND` holds of the outstanding request. -/
structure Pending where
  addr : Byte
  cmd  : Byte
  deriving DecidableEq, Repr

/-- R163, R164: CORRELATE on the ADDR and CMD of a delivered frame. -/
def correlate (par : Params) (p : Pending) (addr cmd : Byte) : Bool :=
  cmd == respCode p.cmd && (!par.corrAddr || addr == p.addr)

/-! ## DRAIN's events and the canonical segmentation -/

/-- R141: a delivered frame or a discard event. -/
inductive Event where
  | frame (f : Frame)
  | discard
  deriving DecidableEq, Repr

/-- R141: the events DRAIN makes of one parse result. -/
def ParseResult.events (r : ParseResult) : List Event :=
  match r.outcome, r.frame with
  | .frameOk, some f => [.frame f]
  | .sumError, _ => [.discard]
  | _, _ => []

/-- R144: the canonical segmentation, at most `fuel` candidates of it: find the leftmost pair; if the whole candidate is
there, emit by the checksum and go on behind it; otherwise stop. -/
def segmentFuel : Nat → Bytes → List Event
  | 0, _ => []
  | fuel + 1, s =>
    match findHeader s with
    | none => []
    | some h =>
      let t := 6 + (byteAt s (h + 4)).toNat
      if s.length < h + 5 ∨ s.length < h + t then []
      else
        (if sum8 (slice s h (h + t - 1)) = byteAt s (h + t - 1) then Event.frame (candidate s h) else Event.discard)
          :: segmentFuel fuel (s.drop (h + t))

/-- R144: the canonical segmentation of a stream (every candidate takes at least six bytes, so the fuel suffices). -/
def segment (s : Bytes) : List Event := segmentFuel (s.length + 1) s

/-! ## The byte-serial parser -/

/-- R150: the phases. -/
inductive Phase where
  | hunt0 | hunt1 | addr | cmd | len | data | sum
  deriving DecidableEq, Repr

/-- R150: the registers of the byte-serial realisation. -/
structure SerialRegs where
  ph    : Phase
  fAddr : Byte
  fCmd  : Byte
  fLen  : Byte
  cnt   : Nat
  pay   : Bytes
  acc   : Byte
  deriving DecidableEq, Repr

/-- R150: the table's row for the current phase, on byte `b`. -/
def serialStep (r : SerialRegs) (b : Byte) : SerialRegs × Option Event :=
  match r.ph with
  | .hunt0 => (if b = hdr0 then { r with ph := .hunt1 } else r, none)
  | .hunt1 =>
    (if b = hdr1 then { r with acc := 0x02#8, ph := .addr }
     else if b = hdr0 then r else { r with ph := .hunt0 }, none)
  | .addr => ({ r with fAddr := b, acc := r.acc + b, ph := .cmd }, none)
  | .cmd => ({ r with fCmd := b, acc := r.acc + b, ph := .len }, none)
  | .len =>
    ({ r with fLen := b, acc := r.acc + b, cnt := 0, pay := [], ph := if b = 0#8 then .sum else .data }, none)
  | .data =>
    ({ r with pay := r.pay ++ [b], acc := r.acc + b, cnt := r.cnt + 1,
              ph := if r.cnt + 1 = r.fLen.toNat then .sum else .data }, none)
  | .sum =>
    ({ r with ph := .hunt0 },
     some (if b = r.acc then
       .frame { header := hdr0 ++ hdr1, addr := r.fAddr, cmd := r.fCmd, len := r.fLen, payload := r.pay, sum := b }
     else .discard))

/-- R151: the stream fed byte by byte, with the events in order. -/
def serialRun (r : SerialRegs) : Bytes → SerialRegs × List Event
  | [] => (r, [])
  | b :: bs =>
    let (r1, e) := serialStep r b
    let (r2, es) := serialRun r1 bs
    (r2, e.toList ++ es)

end Sys2Proof.Machine
end

