-- ==== Sys2Proof/Machine/Records.lean ====
section
/-! DEFINITION. The value types that cross FC's ports: the records (R202, R263, R265, R268), the error classes (R320,
R321), the results (R294) and the operations HOST may invoke (R2). -/

namespace Sys2Proof.Machine

/-! ## Records -/

/-- R202: the DeviceConfig record, its sixteen components. -/
structure DeviceConfig where
  workMode         : Byte
  serialMode       : Byte
  chipAddr         : Byte
  addrRsvd         : Bytes
  baud             : Bytes
  packetInterval   : Bytes
  vid              : Bytes
  pid              : Bytes
  kbSubmitInterval : Bytes
  kbReleaseDelay   : Bytes
  autoEnter        : Byte
  enterChars       : Bytes
  filter           : Bytes
  descEnable       : Byte
  fastSubmit       : Byte
  tailRsvd         : Bytes
  deriving DecidableEq, Repr

/-- R209: the components with a numeric view. -/
inductive NumField where
  | workMode | serialMode | chipAddr | baud | packetInterval | vid | pid | kbSubmitInterval | kbReleaseDelay
  deriving DecidableEq, Repr

/-- R210: the flags in a byte of their own. -/
inductive FlagField where
  | autoEnter | fastSubmit
  deriving DecidableEq, Repr

/-- R212: the three booleans of `desc_enable`. -/
inductive DescFlag where
  | vendor | product | serial
  deriving DecidableEq, Repr

/-- R213: the two string components. -/
inductive StrField where
  | enterChars | filter
  deriving DecidableEq, Repr

/-- R209 to R211: a view of a DeviceConfig that CFG_GET reads. -/
inductive CfgView where
  | num (f : NumField) | flag (f : FlagField) | desc (f : DescFlag) | str (f : StrField)
  deriving DecidableEq, Repr

/-- R209 to R211: a view and the value CFG_SET gives it; numbers are unbounded until the range check (R113). -/
inductive CfgAssign where
  | num (f : NumField) (v : Int) | flag (f : FlagField) (t : Bool) | desc (f : DescFlag) (t : Bool)
  | str (f : StrField) (s : Bytes)
  deriving DecidableEq, Repr

/-- R263: the DeviceInfo record. -/
structure DeviceInfo where
  firmwareVersion : Byte
  usbConnected    : Bool
  numLockOn       : Bool
  capsLockOn      : Bool
  scrollLockOn    : Bool
  deriving DecidableEq, Repr

/-- R265: the KeyReport. -/
structure KeyReport where
  modifierMask : Byte
  keycodes     : Bytes
  deriving DecidableEq, Repr

/-- R268, R270: the relative PointerReport, its operands unbounded until the range check (R113). -/
structure RelReport where
  dx      : Int
  dy      : Int
  buttons : Int
  wheel   : Int
  deriving DecidableEq, Repr

/-- R268, R274: the absolute PointerReport, its operands unbounded until the range check (R113). -/
structure AbsReport where
  x       : Int
  y       : Int
  buttons : Int
  wheel   : Int
  deriving DecidableEq, Repr

/-! ## Error classes (R320, R321) -/

/-- R321 class 1, internal, never part of a reply. -/
inductive FramingError where
  | badChecksum | truncated | badHeader
  deriving DecidableEq, Repr

/-- R321 class 5. -/
inductive EncodingError where
  | payloadTooLong | outOfRange | tooManyKeys | badSlot | stringTooLong
  deriving DecidableEq, Repr

/-- R321 class 6. -/
inductive DecodeError where
  | badLength | badSlot
  deriving DecidableEq, Repr

/-- R321 class 3: the sub-causes of DeviceRejected. -/
inductive Rejection where
  | status (s : Byte) | emptyStatus | decode (e : DecodeError) | slotMismatch
  deriving DecidableEq, Repr

/-- R290, R328: the transport's own error value, opaque to FC. -/
abbrev TransportError := Nat

/-- R321 class 4: the sub-causes of TransportFailure, with the transport's error value (R328). -/
inductive TransportFailure where
  | closed | writeFailed (e : TransportError) | readFailed (e : TransportError)
  deriving DecidableEq, Repr

/-- R294: the reasons of a SoftFailure (R321 classes 2 and 3). -/
inductive SoftReason where
  | timeout | deviceRejected (r : Rejection)
  deriving DecidableEq, Repr

/-- R294, R327: the errors of a HardFailure (R321 classes 4, 5 and 7). -/
inductive HardError where
  | transport (f : TransportFailure) | encoding (e : EncodingError) | rxOverflow
  deriving DecidableEq, Repr

/-! ## Replies -/

/-- R16, R37: the values an operation may return. -/
inductive Value where
  | unit
  | byte (b : Byte)
  | bytes (b : Bytes)
  | bool (t : Bool)
  | nat (n : Nat)
  | index (i : Option Nat)
  | parsed (r : ParseResult)
  | events (es : List Event)
  | info (d : DeviceInfo)
  | config (c : DeviceConfig)
  | slotText (slot : Nat) (text : Bytes)
  deriving DecidableEq, Repr

/-- R16, R294, R326: `Ok`, `SoftFailure`, `HardFailure`, and the plain `Err` of a pure decoder. -/
inductive Reply where
  | ok (v : Value)
  | soft (r : SoftReason)
  | hard (e : HardError)
  | decodeErr (e : DecodeError)
  deriving DecidableEq, Repr

/-- R187: the response handlers; the get-usb-string handler holds the slot that was asked for. -/
inductive Handler where
  | info | config | status | usbString (slot : Byte)
  deriving DecidableEq, Repr

/-! ## Operations (R2 level a) -/

/-- R58, R351: the operations that are pure functions, with their operands. -/
inductive PureOp where
  | sum8 (b : Bytes)
  | encode (addr cmd : Int) (payload : List Int)
  | validFrame (f : Bytes)
  | findHeader (b : Bytes)
  | correlate (p : Pending) (f : Frame)
  | statusCheck (payload : Bytes)
  | cfgDecode (payload : Bytes)
  | cfgEncode (cfg : DeviceConfig)
  | cfgGet (cfg : DeviceConfig) (v : CfgView)
  | cfgSet (cfg : DeviceConfig) (a : CfgAssign)
  | zpad (s : Bytes) (w : Nat)
  | zstrip (raw : Bytes)
  | strEncode (slot : Nat) (text : Bytes)
  | strDecode (payload : Bytes)
  | infoDecode (payload : Bytes)
  | kbPack (r : KeyReport)
  | msRelPack (r : RelReport)
  | msAbsPack (r : AbsReport)
  deriving DecidableEq, Repr

/-- R2, R99: the operations HOST invokes on the ports, with their operands. -/
inductive HostOp where
  | pure (op : PureOp)
  | rxPush (chunk : Bytes)
  | tryParse
  | tryParseOf (buf : Bytes)
  | parseStep
  | drain
  | serialFeed (chunk : Bytes)
  | transact (cmd : Byte) (payload : Bytes) (handle : Handler)
  | getInfo
  | sendKeyboard (r : KeyReport)
  | sendMouseRel (r : RelReport)
  | sendMouseAbs (r : AbsReport)
  | getConfig
  | setConfig (cfg : DeviceConfig)
  | getUsbDescriptor (slot : Nat)
  | setUsbDescriptor (slot : Nat) (text : Bytes)
  | setConfigToDefault
  | chipReset
  | release
  deriving DecidableEq, Repr

/-! ## The environment's answers (R290 to R292, R304) -/

/-- R290: what one `write` answers; `hangs` is a call that never returns (R376, U17). -/
inductive WriteAnswer where
  | ok | fails (e : TransportError) | hangs
  deriving DecidableEq, Repr

/-- R291: what one `read` answers; `hangs` is a call that never returns (R376, U17). -/
inductive ReadAnswer where
  | bytes (chunk : Bytes) | fails (e : TransportError) | hangs
  deriving DecidableEq, Repr

/-- The answers an input of the environment will give: those listed, in order, then `rest` for ever. -/
structure Script (α : Type) where
  head : List α
  rest : α
  deriving DecidableEq, Repr

/-- R38, R318: everything LINK, DEVICE and the environment's clock will answer to FC's polls. -/
structure Env where
  opens     : Script Bool
  writes    : Script WriteAnswer
  reads     : Script ReadAnswer
  deadlines : Script Bool
  deriving DecidableEq, Repr

/-- R290 to R293, R37 (`tx_out`): one call of FC into the transport. -/
inductive TransportCall where
  | isOpen | write (frame : Bytes) | read (maxLen : Nat) | close
  deriving DecidableEq, Repr

end Sys2Proof.Machine
end

