-- ==== Sys2Proof/Machine/Flags.lean ====
section
/-! DEFINITION. FC has no status flags (R32); what takes their place are the outcome codes (R33), the codes of the error
classes (R321) and the status byte (R186). -/

namespace Sys2Proof.Machine

/-- R33: the number of an outcome. -/
def outcomeCode : ParseOutcome → Nat
  | .frameOk => 0
  | .sumError => 1
  | .incomplete => 2
  | .noHeader => 3

/-- R321 (1.3): how many bytes one TRY_PARSE of the buffer skips as part of no frame: those that `NoHeader` consumes, or
those before the header of a consumed candidate; the bytes before an incomplete one stay (R136; log entry 28). -/
def skippedBytes (buf : Bytes) : Nat :=
  match (tryParse buf).outcome with
  | .noHeader => (tryParse buf).consumed
  | .incomplete => 0
  | .frameOk | .sumError => (findHeader buf).getD 0

/-- R321, R322: the framing errors (class 1) that one TRY_PARSE of the buffer meets, `atDeadline` when the deadline has
fired: skipped bytes, a checksum that does not match, and at the deadline a candidate that is not complete. They are
handled inside FC: no result and no field of State holds one (R329). -/
def framingErrors (atDeadline : Bool) (buf : Bytes) : List FramingError :=
  (if 0 < skippedBytes buf then [.badHeader] else []) ++
  (match (tryParse buf).outcome with
    | .sumError => [.badChecksum]
    | .incomplete => if atDeadline then [.truncated] else []
    | .frameOk | .noHeader => [])

/-- R321: the sub-cause number of a framing error. -/
def framingCode : FramingError → Nat
  | .badChecksum => 1
  | .truncated => 2
  | .badHeader => 3

/-- R321: the class and sub-cause numbers of a framing error. -/
def framingErrorCode (e : FramingError) : Nat × Nat := (1, framingCode e)

/-- R321: the sub-cause number of an encoding error. -/
def encodingCode : EncodingError → Nat
  | .payloadTooLong => 1
  | .outOfRange => 2
  | .tooManyKeys => 3
  | .badSlot => 4
  | .stringTooLong => 5

/-- R321: the sub-cause number of a decode error. -/
def decodeCode : DecodeError → Nat
  | .badLength => 1
  | .badSlot => 2

/-- R321: the sub-cause number of a rejection. -/
def rejectionCode : Rejection → Nat
  | .status _ => 1
  | .emptyStatus => 2
  | .decode _ => 3
  | .slotMismatch => 4

/-- R321: the sub-cause number of a transport failure. -/
def transportCode : TransportFailure → Nat
  | .closed => 1
  | .writeFailed _ => 2
  | .readFailed _ => 3

/-- R321: the class and sub-cause numbers of a reply, classes 2 to 7 (class 1 is no reply, R322; sub-cause 0 where the
class has none), `none` for `Ok`. -/
def replyCode : Reply → Option (Nat × Nat)
  | .ok _ => none
  | .soft .timeout => some (2, 0)
  | .soft (.deviceRejected r) => some (3, rejectionCode r)
  | .hard (.transport f) => some (4, transportCode f)
  | .hard (.encoding e) => some (5, encodingCode e)
  | .decodeErr e => some (6, decodeCode e)
  | .hard .rxOverflow => some (7, 0)

/-- R186: STATUS_CHECK on the status payload. -/
def statusCheck (par : Params) : Bytes → Reply
  | [] => .soft (.deviceRejected .emptyStatus)
  | s :: _ => if s = par.statusOk then .ok .unit else .soft (.deviceRejected (.status s))

end Sys2Proof.Machine
end

