-- ==== Sys2Proof/Machine/Codecs.lean ====
section
/-! DEFINITION. REC, the record unit (R31): the DeviceConfig codec and its views (R206 to R212), the USB string
descriptor codec (R242, R245), INFO_DECODE (R262), the three HID packers (R266, R270, R274), ENCODE's range checks (R324)
and the response handlers (R187). All are pure functions. -/

namespace Sys2Proof.Machine

/-! ## DeviceConfig: components -/

/-- R202: the stored bytes of a component. -/
def cfgRaw (c : DeviceConfig) : CfgField → Bytes
  | .workMode         => [c.workMode]
  | .serialMode       => [c.serialMode]
  | .chipAddr         => [c.chipAddr]
  | .addrRsvd         => c.addrRsvd
  | .baud             => c.baud
  | .packetInterval   => c.packetInterval
  | .vid              => c.vid
  | .pid              => c.pid
  | .kbSubmitInterval => c.kbSubmitInterval
  | .kbReleaseDelay   => c.kbReleaseDelay
  | .autoEnter        => [c.autoEnter]
  | .enterChars       => c.enterChars
  | .filter           => c.filter
  | .descEnable       => [c.descEnable]
  | .fastSubmit       => [c.fastSubmit]
  | .tailRsvd         => c.tailRsvd

/-- R206, R211: the record with one component replaced by the given stored bytes. -/
def cfgPut (c : DeviceConfig) (f : CfgField) (raw : Bytes) : DeviceConfig :=
  match f with
  | .workMode         => { c with workMode := byteAt raw 0 }
  | .serialMode       => { c with serialMode := byteAt raw 0 }
  | .chipAddr         => { c with chipAddr := byteAt raw 0 }
  | .addrRsvd         => { c with addrRsvd := raw }
  | .baud             => { c with baud := raw }
  | .packetInterval   => { c with packetInterval := raw }
  | .vid              => { c with vid := raw }
  | .pid              => { c with pid := raw }
  | .kbSubmitInterval => { c with kbSubmitInterval := raw }
  | .kbReleaseDelay   => { c with kbReleaseDelay := raw }
  | .autoEnter        => { c with autoEnter := byteAt raw 0 }
  | .enterChars       => { c with enterChars := raw }
  | .filter           => { c with filter := raw }
  | .descEnable       => { c with descEnable := byteAt raw 0 }
  | .fastSubmit       => { c with fastSubmit := byteAt raw 0 }
  | .tailRsvd         => { c with tailRsvd := raw }

/-- R206: the `{}` that CFG_DECODE's loop starts from; every component is then written (R12). -/
def cfgBlank : DeviceConfig :=
  { workMode := 0, serialMode := 0, chipAddr := 0, addrRsvd := [], baud := [], packetInterval := [], vid := [],
    pid := [], kbSubmitInterval := [], kbReleaseDelay := [], autoEnter := 0, enterChars := [], filter := [],
    descEnable := 0, fastSubmit := 0, tailRsvd := [] }

/-- R201: the row of a component in `CFG_LAYOUT` (R12: there is exactly one). -/
def cfgRow (par : Params) (f : CfgField) : CfgRow :=
  (par.cfgLayout.find? fun r => r.field == f).getD ⟨f, 0, 0, .rsvd⟩

/-- R208: well-formed: every component that is no `zstr` has exactly the width of its row. -/
def cfgWellFormed (par : Params) (c : DeviceConfig) : Bool :=
  par.cfgLayout.all fun r => r.kind == .zstr || (cfgRaw c r.field).length == r.width

/-- R208: representable: well-formed, and each `zstr` has at most its width of bytes and does not end in `0x00`. -/
def cfgRepresentable (par : Params) (c : DeviceConfig) : Bool :=
  cfgWellFormed par c &&
  par.cfgLayout.all fun r =>
    r.kind != .zstr ||
      (decide ((cfgRaw c r.field).length ≤ r.width) && (cfgRaw c r.field).getLast? != some 0x00#8)

/-! ## CFG_DECODE, CFG_ENCODE -/

/-- R206: one turn of CFG_DECODE's loop. -/
def cfgDecodeRow (payload : Bytes) (c : DeviceConfig) (r : CfgRow) : DeviceConfig :=
  let raw := memRead payload r.offset r.width
  cfgPut c r.field (if r.kind = .zstr then zstrip raw else raw)

/-- R206: CFG_DECODE; `none` is DecodeError(BadLength). -/
def cfgDecode (par : Params) (payload : Bytes) : Option DeviceConfig :=
  if payload.length ≠ par.cfgSize then none
  else some (par.cfgLayout.foldl (cfgDecodeRow payload) cfgBlank)

/-- R207: one turn of CFG_ENCODE's loop. -/
def cfgEncodeRow (c : DeviceConfig) (payload : Bytes) (r : CfgRow) : Bytes :=
  memWrite payload r.offset (if r.kind = .zstr then zpad (cfgRaw c r.field) r.width else cfgRaw c r.field)

/-- R207: CFG_ENCODE, defined on well-formed records (R208; the operations refuse the others, U12). -/
def cfgEncode (par : Params) (c : DeviceConfig) : Bytes :=
  par.cfgLayout.foldl (cfgEncodeRow c) (rep 0x00#8 par.cfgSize)

/-! ## CFG_GET, CFG_SET -/

/-- R209: the component behind a numeric view. -/
def numFieldOf : NumField → CfgField
  | .workMode => .workMode
  | .serialMode => .serialMode
  | .chipAddr => .chipAddr
  | .baud => .baud
  | .packetInterval => .packetInterval
  | .vid => .vid
  | .pid => .pid
  | .kbSubmitInterval => .kbSubmitInterval
  | .kbReleaseDelay => .kbReleaseDelay

/-- R210: the component behind a flag view. -/
def flagFieldOf : FlagField → CfgField
  | .autoEnter => .autoEnter
  | .fastSubmit => .fastSubmit

/-- R213: the component behind a string view. -/
def strFieldOf : StrField → CfgField
  | .enterChars => .enterChars
  | .filter => .filter

/-- R212: the bit of `desc_enable` behind a descriptor flag. -/
def descBit (par : Params) : DescFlag → Nat
  | .vendor => par.descEnBits.vendor
  | .product => par.descEnBits.product
  | .serial => par.descEnBits.serial

/-- R209, R53: the number a byte vector stands for under the kind of its row (a `u8` is its own byte). -/
def numView (k : CfgKind) (raw : Bytes) : Nat :=
  match k with
  | .bytes .be => beNat raw
  | _ => leNat raw

/-- R209, R53: the `w` bytes that stand for a number under the kind of a row. -/
def numBytes (k : CfgKind) (w v : Nat) : Bytes :=
  match k with
  | .bytes .be => toBe w v
  | _ => toLe w v

/-- R209 to R212: CFG_GET. On a record that is not well-formed (R208), which R202 excludes by its type, it reads whatever
bytes the component holds: DESIGN CHOICE, log entry 32. -/
def cfgGet (par : Params) (c : DeviceConfig) : CfgView → Value
  | .num f => .nat (numView (cfgRow par (numFieldOf f)).kind (cfgRaw c (numFieldOf f)))
  | .flag f => .bool (flagOf (byteAt (cfgRaw c (flagFieldOf f)) 0))
  | .desc f => .bool (maskBit c.descEnable (descBit par f))
  | .str f => .bytes (cfgRaw c (strFieldOf f))

/-- R209 to R212: CFG_SET; `none` is EncodingError(OutOfRange), raised before anything changes. On a record that is not
well-formed (R208), which R202 excludes by its type, it replaces the component named like on any other: DESIGN CHOICE, log
entry 32. -/
def cfgSet (par : Params) (c : DeviceConfig) : CfgAssign → Option DeviceConfig
  | .num f v =>
    let r := cfgRow par (numFieldOf f)
    if 0 ≤ v ∧ v < ((256 ^ r.width : Nat) : Int) then
      some (cfgPut c (numFieldOf f) (numBytes r.kind r.width v.toNat))
    else none
  | .flag f t => some (cfgPut c (flagFieldOf f) [flagByte t])
  | .desc f t => some { c with descEnable := setMaskBit c.descEnable (descBit par f) t }
  | .str f s => some (cfgPut c (strFieldOf f) s)

/-! ## USB string descriptor -/

/-- R242: STR_ENCODE: the slot is checked before the length (R337). -/
def strEncode (par : Params) (slot : Nat) (text : Bytes) : Sum EncodingError Bytes :=
  if 2 < slot then .inl .badSlot
  else if par.strMax < text.length then .inl .stringTooLong
  else .inr ([BitVec.ofNat 8 slot, BitVec.ofNat 8 text.length] ++ text)

/-- R245: STR_DECODE: minimal length, slot, exact length, in that order (R337). -/
def strDecode : Bytes → Sum DecodeError (Nat × Bytes)
  | [] => .inl .badLength
  | [_] => .inl .badLength
  | slot :: n :: text =>
    if 2 < slot.toNat then .inl .badSlot
    else if text.length ≠ n.toNat then .inl .badLength
    else .inr (slot.toNat, text)

/-! ## DeviceInfo -/

/-- R262: INFO_DECODE over `INFO_LAYOUT`; `none` is DecodeError(BadLength). -/
def infoDecode (par : Params) (payload : Bytes) : Option DeviceInfo :=
  if payload.length ≠ par.infoSize then none
  else
    let l := par.infoLayout
    some
      { firmwareVersion := byteAt payload l.version
        usbConnected    := byteAt payload l.usb != 0x00#8
        numLockOn       := (byteAt payload l.locks).getLsbD l.numBit
        capsLockOn      := (byteAt payload l.locks).getLsbD l.capsBit
        scrollLockOn    := (byteAt payload l.locks).getLsbD l.scrollBit }

/-! ## HID reports -/

/-- R266: the byte one place of `KB_LAYOUT` holds. -/
def kbByte (r : KeyReport) : KbByte → Byte
  | .modifier => r.modifierMask
  | .fixed b => b
  | .key i => byteAt r.keycodes i

/-- R266: KB_PACK; `none` is EncodingError(TooManyKeys). -/
def kbPack (par : Params) (r : KeyReport) : Option Bytes :=
  if maxKeys < r.keycodes.length then none else some (par.kbLayout.map (kbByte r))

/-- R270: the byte one place of `MS_REL_LAYOUT` holds. -/
def msRelByte (r : RelReport) : MsRelByte → Byte
  | .fixed b => b
  | .buttons => BitVec.ofInt 8 r.buttons
  | .dx => tc8 r.dx
  | .dy => tc8 r.dy
  | .wheel => tc8 r.wheel

/-- R270: MS_REL_PACK; `none` is EncodingError(OutOfRange), never a clamped value. -/
def msRelPack (par : Params) (r : RelReport) : Option Bytes :=
  if inI8 r.dx && inI8 r.dy && inI8 r.wheel && inU8 r.buttons then some (par.msRelLayout.map (msRelByte r)) else none

/-- R274: the byte one place of `MS_ABS_LAYOUT` holds. -/
def msAbsByte (r : AbsReport) : MsAbsByte → Byte
  | .fixed b => b
  | .buttons => BitVec.ofInt 8 r.buttons
  | .x i => byteAt (toLe 2 r.x.toNat) i
  | .y i => byteAt (toLe 2 r.y.toNat) i
  | .wheel => tc8 r.wheel

/-- R274: MS_ABS_PACK; `none` is EncodingError(OutOfRange), never a clamped value. -/
def msAbsPack (par : Params) (r : AbsReport) : Option Bytes :=
  if inU16 r.x && inU16 r.y && inI8 r.wheel && inU8 r.buttons then some (par.msAbsLayout.map (msAbsByte r)) else none

/-! ## ENCODE with unbounded operands -/

/-- R324, R337: ENCODE's checks on operands of any size: the length first, then every range, then the frame of R115. -/
def encodeChecked (addr cmd : Int) (payload : List Int) : Sum EncodingError Bytes :=
  if maxPayload < payload.length then .inl .payloadTooLong
  else if inU8 addr && inU8 cmd && payload.all inU8 then
    .inr (frameBytes (BitVec.ofInt 8 addr) (BitVec.ofInt 8 cmd) (payload.map fun v => BitVec.ofInt 8 v))
  else .inl .outOfRange

/-! ## Response handlers (R187, R303) -/

/-- R167, R303: the get-info handler. -/
def infoReply (par : Params) (payload : Bytes) : Reply :=
  match infoDecode par payload with
  | some d => .ok (.info d)
  | none => .soft (.deviceRejected (.decode .badLength))

/-- R175, R303: the get-parameter-config handler. -/
def configReply (par : Params) (payload : Bytes) : Reply :=
  match cfgDecode par payload with
  | some c => .ok (.config c)
  | none => .soft (.deviceRejected (.decode .badLength))

/-- R179, R313: the get-usb-string handler: STR_DECODE, then the comparison with the slot asked for (`none`: the
transaction asked for no slot). -/
def usbStringReply (asked : Option Byte) (payload : Bytes) : Reply :=
  match strDecode payload with
  | .inl e => .soft (.deviceRejected (.decode e))
  | .inr (slot, text) =>
    if asked.map BitVec.toNat = some slot then .ok (.bytes text) else .soft (.deviceRejected .slotMismatch)

/-- R187, R303: `handle(f.payload)`. -/
def handleReply (par : Params) (h : Handler) (payload : Bytes) : Reply :=
  match h with
  | .info => infoReply par payload
  | .config => configReply par payload
  | .status => statusCheck par payload
  | .usbString slot => usbStringReply (some slot) payload

/-- R313: the slot a handler was made with. -/
def askedSlot : Handler → Option Byte
  | .usbString slot => some slot
  | .info | .config | .status => none

end Sys2Proof.Machine
end

