-- ==== Sys2Proof/Decode.lean ====
section
/-! DEFINITION. From bytes to an instruction and back (R80, R88, R91 to R94). Decoding takes the leftmost candidate of the
bytes (TRY_PARSE, R133) and looks its CMD up in the command map; what is no row of the opcode table is refused by name. -/

namespace Sys2Proof

open Sys2Proof.Machine

/-! ## Encoding -/

/-- R91, R92: the CMD byte of the instruction's frame. -/
def instrCmd (par : Params) : Instr → Byte
  | .reqGetInfo _         => par.cmdGetInfo
  | .rspGetInfo _ _       => respCode par.cmdGetInfo
  | .reqSendKbGeneral _ _ => par.cmdSendKbGeneral
  | .rspSendKbGeneral _ _ => respCode par.cmdSendKbGeneral
  | .reqSendMsAbs _ _     => par.cmdSendMsAbs
  | .rspSendMsAbs _ _     => respCode par.cmdSendMsAbs
  | .reqSendMsRel _ _     => par.cmdSendMsRel
  | .rspSendMsRel _ _     => respCode par.cmdSendMsRel
  | .reqGetParaCfg _      => par.cmdGetParaCfg
  | .rspGetParaCfg _ _    => respCode par.cmdGetParaCfg
  | .reqSetParaCfg _ _    => par.cmdSetParaCfg
  | .rspSetParaCfg _ _    => respCode par.cmdSetParaCfg
  | .reqGetUsbString _ _  => par.cmdGetUsbString
  | .rspGetUsbString _ _  => respCode par.cmdGetUsbString
  | .reqSetUsbString _ _  => par.cmdSetUsbString
  | .rspSetUsbString _ _  => respCode par.cmdSetUsbString
  | .reqSetDefaultCfg _   => par.cmdSetDefaultCfg
  | .rspSetDefaultCfg _ _ => respCode par.cmdSetDefaultCfg
  | .reqReset _           => par.cmdReset
  | .rspReset _ _         => respCode par.cmdReset

/-- R80, R166 to R185: the bytes of the instruction's frame on the wire. -/
def encode (par : Params) (i : Instr) : Bytes := frameBytes i.addr (instrCmd par i) i.data

/-! ## Decoding -/

/-- R91: the command whose request code is `c`. -/
def requestOf (par : Params) (c : Byte) : Option Command := allCommands.find? fun k => par.code k == c

/-- R92: the command whose response code is `c`. -/
def responseOf (par : Params) (c : Byte) : Option Command := allCommands.find? fun k => respCode (par.code k) == c

/-- R93: the request row of a command; a row with LEN fixed at 0 admits no DATA. -/
def requestInstr (k : Command) (addr : Byte) (data : Bytes) : Option Instr :=
  match k with
  | .getInfo       => if data = [] then some (.reqGetInfo addr) else none
  | .sendKbGeneral => some (.reqSendKbGeneral addr data)
  | .sendMsAbs     => some (.reqSendMsAbs addr data)
  | .sendMsRel     => some (.reqSendMsRel addr data)
  | .getParaCfg    => if data = [] then some (.reqGetParaCfg addr) else none
  | .setParaCfg    => some (.reqSetParaCfg addr data)
  | .getUsbString  => some (.reqGetUsbString addr data)
  | .setUsbString  => some (.reqSetUsbString addr data)
  | .setDefaultCfg => if data = [] then some (.reqSetDefaultCfg addr) else none
  | .reset         => if data = [] then some (.reqReset addr) else none

/-- R93: the response row of a command; the get-info row fixes LEN at `INFO_SIZE`. -/
def responseInstr (par : Params) (k : Command) (addr : Byte) (data : Bytes) : Option Instr :=
  match k with
  | .getInfo       => if data.length = par.infoSize then some (.rspGetInfo addr data) else none
  | .sendKbGeneral => some (.rspSendKbGeneral addr data)
  | .sendMsAbs     => some (.rspSendMsAbs addr data)
  | .sendMsRel     => some (.rspSendMsRel addr data)
  | .getParaCfg    => some (.rspGetParaCfg addr data)
  | .setParaCfg    => some (.rspSetParaCfg addr data)
  | .getUsbString  => some (.rspGetUsbString addr data)
  | .setUsbString  => some (.rspSetUsbString addr data)
  | .setDefaultCfg => some (.rspSetDefaultCfg addr data)
  | .reset         => some (.rspReset addr data)

/-- What decoding answers: an instruction and the bytes behind it, or the name of what stands there instead. -/
inductive Decoded where
  /-- A row of the opcode table, and the remainder. -/
  | instr (i : Instr) (rest : Bytes)
  /-- R138: no header in the bytes. -/
  | noHeader
  /-- R136, R137: the candidate is not complete. -/
  | incomplete
  /-- R135: the checksum does not match. -/
  | badSum
  /-- R97: a valid frame whose CMD is no code of the command map. -/
  | uninterpreted (cmd : Byte)
  /-- R93: a valid frame of a command whose row fixes another LEN. -/
  | lenNotOfRow (cmd len : Byte)
  deriving DecidableEq, Repr

/-- R93: the row a frame belongs to by its CMD and LEN. -/
def decodeFields (par : Params) (addr cmd : Byte) (data : Bytes) : Option Instr :=
  match requestOf par cmd with
  | some k => requestInstr k addr data
  | none =>
    match responseOf par cmd with
    | some k => responseInstr par k addr data
    | none => none

/-- R93: the instruction a delivered frame stands for. -/
def decodeFrame (par : Params) (f : Frame) : Option Instr := decodeFields par f.addr f.cmd f.payload

/-- R97, R93: why a delivered frame is no row of the table. -/
def refuseFrame (par : Params) (f : Frame) : Decoded :=
  if (requestOf par f.cmd).isSome || (responseOf par f.cmd).isSome then .lenNotOfRow f.cmd f.len
  else .uninterpreted f.cmd

/-- R94, R133: decode the leftmost candidate of the bytes. -/
def decode (par : Params) (b : Bytes) : Decoded :=
  let r := tryParse b
  match r.frame with
  | some f =>
    match decodeFrame par f with
    | some i => .instr i (b.drop r.consumed)
    | none => refuseFrame par f
  | none =>
    match r.outcome with
    | .incomplete => .incomplete
    | .sumError => .badSum
    | .frameOk | .noHeader => .noHeader

/-! ## The opcode table's word view -/

/-- R88: the first `n` bytes of a word read as the table reads it: its most significant byte is first on the wire. -/
def wordBytes (n w : Nat) : Bytes := toBe n w

/-- R88: the 40-bit prefix word `W` of a frame. -/
def prefixWord (addr cmd len : Byte) : BitVec 40 := hdr0 ++ hdr1 ++ addr ++ cmd ++ len

/-- R93: one row of spec/opcode_table.json. -/
structure OpcodeRow where
  mnemonic : String
  matchW   : BitVec 40
  maskW    : BitVec 40
  deriving DecidableEq, Repr

/-- R88: a prefix word belongs to a row iff `W & mask = match`. -/
def OpcodeRow.has (r : OpcodeRow) (w : BitVec 40) : Bool := w &&& r.maskW == r.matchW

/-- R93: the twenty rows of spec/opcode_table.json, written out. -/
def opcodeTable : List OpcodeRow :=
  [⟨"REQ_GET_INFO",        0x57AB000100#40, 0xFFFF00FFFF#40⟩,
   ⟨"RSP_GET_INFO",        0x57AB00810A#40, 0xFFFF00FFFF#40⟩,
   ⟨"REQ_SEND_KB_GENERAL", 0x57AB000200#40, 0xFFFF00FF00#40⟩,
   ⟨"RSP_SEND_KB_GENERAL", 0x57AB008200#40, 0xFFFF00FF00#40⟩,
   ⟨"REQ_SEND_MS_ABS",     0x57AB000400#40, 0xFFFF00FF00#40⟩,
   ⟨"RSP_SEND_MS_ABS",     0x57AB008400#40, 0xFFFF00FF00#40⟩,
   ⟨"REQ_SEND_MS_REL",     0x57AB000500#40, 0xFFFF00FF00#40⟩,
   ⟨"RSP_SEND_MS_REL",     0x57AB008500#40, 0xFFFF00FF00#40⟩,
   ⟨"REQ_GET_PARA_CFG",    0x57AB000800#40, 0xFFFF00FFFF#40⟩,
   ⟨"RSP_GET_PARA_CFG",    0x57AB008800#40, 0xFFFF00FF00#40⟩,
   ⟨"REQ_SET_PARA_CFG",    0x57AB000900#40, 0xFFFF00FF00#40⟩,
   ⟨"RSP_SET_PARA_CFG",    0x57AB008900#40, 0xFFFF00FF00#40⟩,
   ⟨"REQ_GET_USB_STRING",  0x57AB000A00#40, 0xFFFF00FF00#40⟩,
   ⟨"RSP_GET_USB_STRING",  0x57AB008A00#40, 0xFFFF00FF00#40⟩,
   ⟨"REQ_SET_USB_STRING",  0x57AB000B00#40, 0xFFFF00FF00#40⟩,
   ⟨"RSP_SET_USB_STRING",  0x57AB008B00#40, 0xFFFF00FF00#40⟩,
   ⟨"REQ_SET_DEFAULT_CFG", 0x57AB000C00#40, 0xFFFF00FFFF#40⟩,
   ⟨"RSP_SET_DEFAULT_CFG", 0x57AB008C00#40, 0xFFFF00FF00#40⟩,
   ⟨"REQ_RESET",           0x57AB000F00#40, 0xFFFF00FFFF#40⟩,
   ⟨"RSP_RESET",           0x57AB008F00#40, 0xFFFF00FF00#40⟩]

/-- The frame that a word of `nbits` bits begins (R88): its bytes, the DATA bytes the word does not give as `0x00`, and
SUM; SUM is no operand and no bit of the table, so where the word does not give it, it is what R87 says (log entry 9). -/
def wordFrame (nbits w : Nat) : Bytes :=
  let given := wordBytes (nbits / 8) w
  let total := 6 + (byteAt given 4).toNat
  if total ≤ given.length then given.take total
  else
    let body := (given ++ rep 0x00#8 total).take (total - 1)
    body ++ [sum8 body]

/-- The instruction the decoder reads from a word of the opcode table, with the default parameters. -/
def decodeTableWord (nbits w : Nat) : Option Instr :=
  match decode Params.default (wordFrame nbits w) with
  | .instr i _ => some i
  | _ => none

end Sys2Proof
end

