-- ==== Sys2Proof/Machine/State.lean ====
section
/-! DEFINITION. The whole state of FC (R20 to R30, R37, R38) as plain data, the reasons a step can stop, and the state
right after reset (R40, R360). -/

namespace Sys2Proof.Machine

/-- R23: `FR`, the frame register; when `valid` is false the fields of `frame` are unspecified (log entry 2). -/
structure FrameReg where
  valid : Bool
  frame : Frame
  deriving DecidableEq, Repr

/-- R29, R364: `THND`: the engine owns the transport handle, or has released it. -/
inductive Handle where
  | held | released
  deriving DecidableEq, Repr

/-- R30, R297: the position inside TRANSACT, which decides what happens next. -/
inductive SeqPos where
  /-- no operation in progress (R350) -/
  | idle
  /-- before S1: `TXR` holds a request frame of the opcode table, to be run -/
  | send
  /-- before S1 of a direct TRANSACT: `TXR` holds whatever HOST gave -/
  | sendDirect
  /-- S6: parse what is in `RXBUF` -/
  | parse
  /-- S7: sample the deadline -/
  | deadline
  /-- S8: read more bytes -/
  | read
  deriving DecidableEq, Repr

/-- The state of FC. -/
structure State where
  /-- R11, R34, R40: the parameters, fixed before reset and constant afterwards. -/
  par        : Params
  /-- R21: `RXBUF`, the receive buffer, oldest byte first. -/
  rxbuf      : Bytes
  /-- R23: `FR`, the frame register. -/
  fr         : FrameReg
  /-- R24: `TXR`, the transmit operand registers. -/
  txr        : TxOperands
  /-- R26: `PEND`, the pending request. -/
  pend       : Option Pending
  /-- R27: `TIMEOUT_CFG`, opaque and read by no rule. -/
  timeoutCfg : Nat
  /-- R28: `SEQ`, the sequence counter. -/
  seq        : Nat
  /-- R29: `THND`, the transport handle. -/
  thnd       : Handle
  /-- R150: the registers of the byte-serial realisation of the parser, `PH`, `F_ADDR`, `F_CMD`, `F_LEN`, `CNT`,
  `PAY`, `ACC`. -/
  ser        : SerialRegs
  /-- R30: the position inside TRANSACT. -/
  pos        : SeqPos
  /-- R297: TRANSACT's operand `handle`, the response handler of the transaction in progress. -/
  hnd        : Handler
  /-- R37: port `op_req` (and the request side of the other ports): the operations HOST will invoke, next first. -/
  ops        : List HostOp
  /-- R351, R37: HOST's calls of pure functions while an operation is outstanding, one entry for each coming step: a call
  that comes now, or `none` where FC itself moves; after the list FC moves at every step (log entry 29). -/
  aside      : List (Option PureOp)
  /-- R37: the result ports: what operations have returned, newest first. -/
  replies    : List Reply
  /-- R37 `tx_out`, R290 to R293: FC's calls into the transport, newest first. -/
  calls      : List TransportCall
  /-- R38: what the environment will answer. -/
  env        : Env
  /-- The model's own: how many free values have been taken (log entry 1). -/
  free       : Nat
  deriving DecidableEq, Repr

/-- Why the machine can be stuck: an environment call that never returns. -/
inductive Fault where
  /-- R376, U17: `write` never returns; raised by S4 of TRANSACT. Safe: the spec calls it stuck. -/
  | writeNeverReturns
  /-- R376, U17: `read` never returns; raised by S8 of TRANSACT. Safe: the spec calls it stuck. -/
  | readNeverReturns
  deriving DecidableEq, Repr

/-- Why a step can be outside the model's domain. -/
inductive Refusal where
  /-- An instruction whose meaning is not written; raised by `exec` only. Safe. -/
  | notModelled (mnemonic : String)
  /-- R295, R351, U6: a transaction started while one is outstanding; raised by the request instructions. Safe: the spec
  gives such a run no meaning. -/
  | overlappingTransaction
  /-- R364, U11: an operation after release; raised by the request instructions and the operations. Safe: no operation may
  be invoked there. -/
  | afterRelease
  /-- R208, U12: CFG_ENCODE of a record that is not well-formed; raised by `opCfgEncode` and `opSetConfig`. Safe: excluded by
  the record's type. -/
  | illFormedConfig
  /-- R12, R22: parameters no instantiation may take; raised by `step`. Safe: refused as a configuration. -/
  | badConfiguration
  deriving DecidableEq, Repr

/-- What one step of FC answers. -/
abbrev Answer := Host.Outcome State Fault Refusal

/-- A frame with every field zero. -/
def zeroFrame : Frame := ⟨0, 0, 0, 0, [], 0⟩

/-- R150, R360: the byte-serial registers after reset: `PH = HUNT0` (the others: log entry 8). -/
def serialReset : SerialRegs := ⟨.hunt0, 0, 0, 0, 0, [], 0⟩

/-- The environment that reset begins with: an open transport that accepts every write, a device that says nothing and a
deadline that fires (log entry 11). -/
def envReset : Env :=
  { opens := ⟨[], true⟩, writes := ⟨[], .ok⟩, reads := ⟨[], .bytes []⟩, deadlines := ⟨[], true⟩ }

/-- R40, R360: the state right after reset, an idle engine; what the spec leaves unspecified is zero (log entry 8). -/
def State.reset : State where
  par        := Params.default
  rxbuf      := []
  fr         := ⟨false, zeroFrame⟩
  txr        := ⟨0, 0, []⟩
  pend       := none
  timeoutCfg := 0
  seq        := 0
  thnd       := .held
  ser        := serialReset
  pos        := .idle
  hnd        := .status
  ops        := []
  aside      := []
  replies    := []
  calls      := []
  env        := envReset
  free       := 0

end Sys2Proof.Machine
end

