-- ==== Sys2Proof/Machine/Ops.lean ====
section
/-! DEFINITION. The named operations over FC's state: the receive buffer (R130, R140, R141), the frame register (R23), the
environment's inputs (R290 to R304), the end of an operation with its result (R306, R338: what FC has in place of taking
an exception and returning from one), and the two shared halves of TRANSACT (R297): sending and responding. -/

namespace Sys2Proof.Machine

/-- R22: the buffer fits its capacity. Equal buffers are equal lists, so this is all there is to the form of FC's memory. -/
def Memory.wf (par : Params) (rxbuf : Bytes) : Bool :=
  match par.rxbufCap with
  | none => true
  | some c => decide (rxbuf.length ≤ c)

/-! ## The frame register and the receive buffer -/

/-- R133: TRY_PARSE's write of `FR`: all fields on `FrameOk`; otherwise `valid` is 0 and the fields are unspecified. -/
def State.loadFr (r : ParseResult) (s : State) : State :=
  match r.frame with
  | some f => { s with fr := ⟨true, f⟩ }
  | none => { s with fr := ⟨false, Config.freeFrame s.free⟩, free := s.free + 1 }

/-- R140: PARSE_STEP: TRY_PARSE on `RXBUF` (its result is `tryParse s.rxbuf`), then drop `consumed` bytes. -/
def State.parseStep (s : State) : State :=
  { s.loadFr (tryParse s.rxbuf) with rxbuf := s.rxbuf.drop (tryParse s.rxbuf).consumed }

/-- R141: DRAIN, at most `fuel` turns of it. -/
def drainFuel : Nat → State → List Event × State
  | 0, s => ([], s)
  | fuel + 1, s =>
    let r := tryParse s.rxbuf
    let s' := s.parseStep
    match r.outcome with
    | .frameOk | .sumError =>
      let (es, t) := drainFuel fuel s'
      (r.events ++ es, t)
    | .incomplete | .noHeader => ([], s')

/-- R141: DRAIN: every turn that does not return takes at least six bytes, so the fuel suffices. -/
def State.drain (s : State) : List Event × State := drainFuel (s.rxbuf.length + 1) s

/-- R130: RX_PUSH; `none` is RxOverflow, with nothing appended (R331). -/
def State.rxPush (chunk : Bytes) (s : State) : Option State :=
  if Memory.wf s.par (s.rxbuf ++ chunk) then some { s with rxbuf := s.rxbuf ++ chunk } else none

/-- R296: the optional flush before a request. -/
def State.flush (s : State) : State := if s.par.flushOnRequest then { s with rxbuf := [] } else s

/-- R24, U8: `TXR` is dead once its ENCODE has ended. -/
def State.dropTxr (s : State) : State := { s with txr := Config.freeTxr s.free, free := s.free + 1 }

/-! ## The environment -/

/-- The answer an input gives now. -/
def Script.now {α : Type} (c : Script α) : α := c.head.headD c.rest

/-- The answers left after one. -/
def Script.tail {α : Type} (c : Script α) : Script α := { c with head := c.head.tail }

/-- R292: one call of `is_open()`; its answer is `s.env.opens.now`. -/
def State.askOpen (s : State) : State :=
  { s with env := { s.env with opens := s.env.opens.tail }, calls := .isOpen :: s.calls }

/-- R290: one call of `write(frame)`; its answer is `s.env.writes.now`. -/
def State.callWrite (frame : Bytes) (s : State) : State :=
  { s with env := { s.env with writes := s.env.writes.tail }, calls := .write frame :: s.calls }

/-- R291: the bytes of a chunk that do not fit one `read` wait for the next. -/
def readsLeft (max : Nat) (c : Script ReadAnswer) : Script ReadAnswer :=
  match c.now with
  | .bytes chunk => if max < chunk.length then { c.tail with head := .bytes (chunk.drop max) :: c.tail.head } else c.tail
  | .fails _ | .hangs => c.tail

/-- R291: one call of `read(READ_MAX)`; its answer is `s.env.reads.now`, of which `READ_MAX` bytes are taken. -/
def State.callRead (s : State) : State :=
  { s with env := { s.env with reads := readsLeft s.par.readMax s.env.reads }, calls := .read s.par.readMax :: s.calls }

/-- R304: one sample of `deadline_fired`; its answer is `s.env.deadlines.now`. -/
def State.sampleDeadline (s : State) : State :=
  { s with env := { s.env with deadlines := s.env.deadlines.tail } }

/-- R351: the entry for this step leaves HOST's schedule of pure calls; the entry is `s.aside.headD none`. -/
def State.takeTurn (s : State) : State := { s with aside := s.aside.tail }

/-! ## Ending an operation (R306, R330, R338, R339) -/

/-- A result on the result port. -/
def State.reply (r : Reply) (s : State) : State := { s with replies := r :: s.replies }

/-- R306, R338: the operation in progress ends with a result: `PEND` is `None` and FC is idle. Every error of the
sequencer is delivered by this one operation, and nothing else is saved (R329). -/
def State.finish (r : Reply) (s : State) : State := { s.reply r with pend := none, pos := .idle }

/-- R294: a HardFailure with a transport cause. -/
def transportReply (f : TransportFailure) : Reply := .hard (.transport f)

/-- R294: a HardFailure with an encoding cause. -/
def encodingReply (e : EncodingError) : Reply := .hard (.encoding e)

/-! ## Sending (R297 S1 to S5, R298) -/

/-- R297 S4, S5: the one write; `PEND` is set only after it has returned `Ok`. -/
def writeRequest (addr cmd : Byte) (h : Handler) (frame : Bytes) (s : State) : Answer :=
  match s.env.writes.now with
  | .hangs => .fault .writeNeverReturns
  | .fails e => .next ((s.callWrite frame).finish (transportReply (.writeFailed e)))
  | .ok => .next { s.callWrite frame with pend := some ⟨addr, cmd⟩, hnd := h, pos := .parse }

/-- R297 S1 to S5: SEQ, ENCODE, `is_open`, the flush, the write. -/
def sendRequest (addr cmd : Byte) (payload : Bytes) (h : Handler) (s : State) : Answer :=
  let s1 := { s with seq := s.seq + 1 }.dropTxr
  match encodeFrame addr cmd payload with
  | none => .next (s1.finish (encodingReply .payloadTooLong))
  | some frame =>
    if s1.env.opens.now then writeRequest addr cmd h frame s1.askOpen.flush
    else .next (s1.askOpen.finish (transportReply .closed))

/-- R295, R364: what must hold before a request is sent: the instance is not released and no other transaction is
outstanding. -/
def whenFree (s : State) (k : State → Answer) : Answer :=
  if s.thnd = .released then .refused .afterRelease
  else if s.pend.isSome then .refused .overlappingTransaction
  else k s

/-- R297 S1 to S5 under the precondition of R295. -/
def transmit (addr cmd : Byte) (payload : Bytes) (h : Handler) (s : State) : Answer :=
  whenFree s (sendRequest addr cmd payload h)

/-- R336, R338: a request refused before TRANSACT: nothing is sent, `SEQ` is unchanged. -/
def refuseRequest (e : EncodingError) (s : State) : Answer :=
  whenFree s fun s => .next (s.dropTxr.finish (encodingReply e))

/-! ## Responding (R297 S6, S9) -/

/-- R163, R297, R301, R303: a delivered frame with this ADDR and CMD: correlated with `PEND` it ends the transaction with
the reply; otherwise it is dropped without effect. -/
def respond (addr cmd : Byte) (r : Reply) (s : State) : Answer :=
  match s.pend with
  | some p => if correlate s.par p addr cmd then .next (s.finish r) else .next s
  | none => .next s

end Sys2Proof.Machine
end

