-- ==== Sys2Proof/Machine/Requests.lean ====
section
/-! DEFINITION. The ten request frames: FC sends them (R160), each by S1 to S5 of TRANSACT (R297) with the handler of its
row in the dispatch table (R187). DATA has been packed by the typed operation and is sent as it stands; the selector and
the string bound that R178 and R180 check before anything is sent are checked here as well. -/

namespace Sys2Proof.Machine

/-- R166: get-info, request. -/
def execReqGetInfo (addr : Byte) (s : State) : Answer :=
  transmit addr s.par.cmdGetInfo [] .info s

/-- R168: send-keyboard-general-report, request. -/
def execReqSendKbGeneral (addr : Byte) (data : Bytes) (s : State) : Answer :=
  transmit addr s.par.cmdSendKbGeneral data .status s

/-- R170: send-mouse-absolute-report, request. -/
def execReqSendMsAbs (addr : Byte) (data : Bytes) (s : State) : Answer :=
  transmit addr s.par.cmdSendMsAbs data .status s

/-- R172: send-mouse-relative-report, request. -/
def execReqSendMsRel (addr : Byte) (data : Bytes) (s : State) : Answer :=
  transmit addr s.par.cmdSendMsRel data .status s

/-- R174: get-parameter-config, request. -/
def execReqGetParaCfg (addr : Byte) (s : State) : Answer :=
  transmit addr s.par.cmdGetParaCfg [] .config s

/-- R176: set-parameter-config, request. -/
def execReqSetParaCfg (addr : Byte) (data : Bytes) (s : State) : Answer :=
  transmit addr s.par.cmdSetParaCfg data .status s

/-- R178, R243: the selector a get-usb-string or set-usb-string payload begins with, if it is 0, 1 or 2. -/
def slotOf : Bytes → Option Byte
  | [] => none
  | slot :: _ => if slot.toNat ≤ 2 then some slot else none

/-- R178, R243: get-usb-string, request: a selector other than 0, 1, 2 is refused before anything is sent. -/
def execReqGetUsbString (addr : Byte) (data : Bytes) (s : State) : Answer :=
  match slotOf data with
  | some slot => transmit addr s.par.cmdGetUsbString data (.usbString slot) s
  | none => refuseRequest .badSlot s

/-- R180, R242: set-usb-string, request: a bad selector, then a text over `STR_MAX`, are refused before anything is
sent. -/
def execReqSetUsbString (addr : Byte) (data : Bytes) (s : State) : Answer :=
  match slotOf data with
  | some _ =>
    if s.par.strMax + 2 < data.length then refuseRequest .stringTooLong s
    else transmit addr s.par.cmdSetUsbString data .status s
  | none => refuseRequest .badSlot s

/-- R182: restore-factory-config, request. -/
def execReqSetDefaultCfg (addr : Byte) (s : State) : Answer :=
  transmit addr s.par.cmdSetDefaultCfg [] .status s

/-- R184, R362: chip-reset, request; it resets the device and no state of FC. -/
def execReqReset (addr : Byte) (s : State) : Answer :=
  transmit addr s.par.cmdReset [] .status s

end Sys2Proof.Machine
end

