-- ==== Sys2Proof/Machine/Responses.lean ====
section
/-! DEFINITION. The ten response frames: FC acts on them (R160) when PARSE_STEP has delivered one into `FR`: correlated with
`PEND`, the frame ends the transaction with its command's result; otherwise it is dropped (R163, R301, R303). -/

namespace Sys2Proof.Machine

/-- R167: get-info, response: INFO_DECODE. -/
def execRspGetInfo (addr : Byte) (data : Bytes) (s : State) : Answer :=
  respond addr (respCode s.par.cmdGetInfo) (infoReply s.par data) s

/-- R169: send-keyboard-general-report, response: STATUS_CHECK. -/
def execRspSendKbGeneral (addr : Byte) (data : Bytes) (s : State) : Answer :=
  respond addr (respCode s.par.cmdSendKbGeneral) (statusCheck s.par data) s

/-- R171: send-mouse-absolute-report, response: STATUS_CHECK. -/
def execRspSendMsAbs (addr : Byte) (data : Bytes) (s : State) : Answer :=
  respond addr (respCode s.par.cmdSendMsAbs) (statusCheck s.par data) s

/-- R173: send-mouse-relative-report, response: STATUS_CHECK. -/
def execRspSendMsRel (addr : Byte) (data : Bytes) (s : State) : Answer :=
  respond addr (respCode s.par.cmdSendMsRel) (statusCheck s.par data) s

/-- R175: get-parameter-config, response: CFG_DECODE. -/
def execRspGetParaCfg (addr : Byte) (data : Bytes) (s : State) : Answer :=
  respond addr (respCode s.par.cmdGetParaCfg) (configReply s.par data) s

/-- R177: set-parameter-config, response: STATUS_CHECK. -/
def execRspSetParaCfg (addr : Byte) (data : Bytes) (s : State) : Answer :=
  respond addr (respCode s.par.cmdSetParaCfg) (statusCheck s.par data) s

/-- R179: get-usb-string, response: STR_DECODE, then the comparison with the slot asked for. -/
def execRspGetUsbString (addr : Byte) (data : Bytes) (s : State) : Answer :=
  respond addr (respCode s.par.cmdGetUsbString) (usbStringReply (askedSlot s.hnd) data) s

/-- R181: set-usb-string, response: STATUS_CHECK. -/
def execRspSetUsbString (addr : Byte) (data : Bytes) (s : State) : Answer :=
  respond addr (respCode s.par.cmdSetUsbString) (statusCheck s.par data) s

/-- R183: restore-factory-config, response: STATUS_CHECK. -/
def execRspSetDefaultCfg (addr : Byte) (data : Bytes) (s : State) : Answer :=
  respond addr (respCode s.par.cmdSetDefaultCfg) (statusCheck s.par data) s

/-- R185: chip-reset, response: STATUS_CHECK. -/
def execRspReset (addr : Byte) (data : Bytes) (s : State) : Answer :=
  respond addr (respCode s.par.cmdReset) (statusCheck s.par data) s

end Sys2Proof.Machine
end

