-- ==== Sys2Proof/Machine/Dispatch.lean ====
section
/-! DEFINITION. One arm per row of spec/opcode_table.json. -/

namespace Sys2Proof.Machine

def exec (i : Instr) (s : State) : Host.Outcome State Fault Refusal :=
  match i with
  | .reqGetInfo addr => Sys2Proof.Machine.execReqGetInfo addr s
  | .rspGetInfo addr data => Sys2Proof.Machine.execRspGetInfo addr data s
  | .reqSendKbGeneral addr data => Sys2Proof.Machine.execReqSendKbGeneral addr data s
  | .rspSendKbGeneral addr data => Sys2Proof.Machine.execRspSendKbGeneral addr data s
  | .reqSendMsAbs addr data => Sys2Proof.Machine.execReqSendMsAbs addr data s
  | .rspSendMsAbs addr data => Sys2Proof.Machine.execRspSendMsAbs addr data s
  | .reqSendMsRel addr data => Sys2Proof.Machine.execReqSendMsRel addr data s
  | .rspSendMsRel addr data => Sys2Proof.Machine.execRspSendMsRel addr data s
  | .reqGetParaCfg addr => Sys2Proof.Machine.execReqGetParaCfg addr s
  | .rspGetParaCfg addr data => Sys2Proof.Machine.execRspGetParaCfg addr data s
  | .reqSetParaCfg addr data => Sys2Proof.Machine.execReqSetParaCfg addr data s
  | .rspSetParaCfg addr data => Sys2Proof.Machine.execRspSetParaCfg addr data s
  | .reqGetUsbString addr data => Sys2Proof.Machine.execReqGetUsbString addr data s
  | .rspGetUsbString addr data => Sys2Proof.Machine.execRspGetUsbString addr data s
  | .reqSetUsbString addr data => Sys2Proof.Machine.execReqSetUsbString addr data s
  | .rspSetUsbString addr data => Sys2Proof.Machine.execRspSetUsbString addr data s
  | .reqSetDefaultCfg addr => Sys2Proof.Machine.execReqSetDefaultCfg addr s
  | .rspSetDefaultCfg addr data => Sys2Proof.Machine.execRspSetDefaultCfg addr data s
  | .reqReset addr => Sys2Proof.Machine.execReqReset addr s
  | .rspReset addr data => Sys2Proof.Machine.execRspReset addr data s

end Sys2Proof.Machine
end

