-- ==== Sys2Proof/Machine/HostOps.lean ====
section
/-! DEFINITION. The operations HOST invokes (R2 level a), each one atomic step of its unit (R9); a typed operation packs its
operands and hands the request to SEQR through `TXR` (R187, R307 to R316). -/

namespace Sys2Proof.Machine

/-- A pure function's value on its result port. -/
def answer (v : Value) (s : State) : Answer := .next (s.reply (.ok v))

/-- A raised EncodingError (R324): nothing else changes. -/
def raiseEncoding (e : EncodingError) (s : State) : Answer := .next (s.reply (encodingReply e))

/-- R130, R331: RX_PUSH. -/
def opRxPush (chunk : Bytes) (s : State) : Answer :=
  match s.rxPush chunk with
  | some t => answer .unit t
  | none => .next (s.reply (.hard .rxOverflow))

/-- R133: TRY_PARSE on a buffer: writes `FR`, leaves `RXBUF`. On HOST's own buffer too, where R361 calls it pure: DEDUCED,
log entry 31. -/
def opTryParse (buf : Bytes) (s : State) : Answer :=
  answer (.parsed (tryParse buf)) (s.loadFr (tryParse buf))

/-- R140: PARSE_STEP. -/
def opParseStep (s : State) : Answer := answer (.parsed (tryParse s.rxbuf)) s.parseStep

/-- R141: DRAIN. -/
def opDrain (s : State) : Answer := answer (.events s.drain.1) s.drain.2

/-- R150: the byte-serial parser fed a chunk, an operation of its own with registers beside `RXBUF`: DESIGN CHOICE, log
entry 22. -/
def opSerialFeed (chunk : Bytes) (s : State) : Answer :=
  answer (.events (serialRun s.ser chunk).2) { s with ser := (serialRun s.ser chunk).1 }

/-- R206: CFG_DECODE. -/
def opCfgDecode (payload : Bytes) (s : State) : Answer :=
  match cfgDecode s.par payload with
  | some c => answer (.config c) s
  | none => .next (s.reply (.decodeErr .badLength))

/-- R207, U12: CFG_ENCODE. -/
def opCfgEncode (c : DeviceConfig) (s : State) : Answer :=
  if cfgWellFormed s.par c then answer (.bytes (cfgEncode s.par c)) s else .refused .illFormedConfig

/-- R209 to R212: CFG_SET, on any record, well-formed (R208) or not: DESIGN CHOICE, log entry 32. -/
def opCfgSet (c : DeviceConfig) (a : CfgAssign) (s : State) : Answer :=
  match cfgSet s.par c a with
  | some c' => answer (.config c') s
  | none => raiseEncoding .outOfRange s

/-- R115, R324: ENCODE by HOST itself. R351 gives it a private register, so `TXR`, whose content R24, R40 and U8 leave
unspecified here, is left as it is: DESIGN CHOICE, log entry 27. -/
def opEncode (addr cmd : Int) (payload : List Int) (s : State) : Answer :=
  match encodeChecked addr cmd payload with
  | .inl e => raiseEncoding e s
  | .inr b => answer (.bytes b) s

/-- R242: STR_ENCODE. -/
def opStrEncode (slot : Nat) (text : Bytes) (s : State) : Answer :=
  match strEncode s.par slot text with
  | .inl e => raiseEncoding e s
  | .inr b => answer (.bytes b) s

/-- R245: STR_DECODE. -/
def opStrDecode (payload : Bytes) (s : State) : Answer :=
  match strDecode payload with
  | .inl e => .next (s.reply (.decodeErr e))
  | .inr (slot, text) => answer (.slotText slot text) s

/-- R262: INFO_DECODE. -/
def opInfoDecode (payload : Bytes) (s : State) : Answer :=
  match infoDecode s.par payload with
  | some d => answer (.info d) s
  | none => .next (s.reply (.decodeErr .badLength))

/-- A packer's payload, or its EncodingError. -/
def packed (p : Option Bytes) (e : EncodingError) (k : Bytes → State → Answer) (s : State) : Answer :=
  match p with
  | some b => k b s
  | none => raiseEncoding e s

/-- R297: TRANSACT begins for a typed operation: its operands go to `TXR` (with `ADDR = DEV_ADDR`, R161)
and the handler register; S1 is the next step. -/
def startTransact (cmd : Byte) (h : Handler) (payload : Bytes) (s : State) : Answer :=
  .next { s with txr := ⟨s.par.devAddr, cmd, payload⟩, hnd := h, pos := .send }

/-- R2, R297: a direct TRANSACT, with any CMD, payload and handler. -/
def opTransact (cmd : Byte) (payload : Bytes) (h : Handler) (s : State) : Answer :=
  .next { s with txr := ⟨s.par.devAddr, cmd, payload⟩, hnd := h, pos := .sendDirect }

/-- R308: `send_keyboard`. -/
def opSendKeyboard (r : KeyReport) (s : State) : Answer :=
  packed (kbPack s.par r) .tooManyKeys (startTransact s.par.cmdSendKbGeneral .status) s

/-- R309: `send_mouse_rel`. -/
def opSendMouseRel (r : RelReport) (s : State) : Answer :=
  packed (msRelPack s.par r) .outOfRange (startTransact s.par.cmdSendMsRel .status) s

/-- R310: `send_mouse_abs`. -/
def opSendMouseAbs (r : AbsReport) (s : State) : Answer :=
  packed (msAbsPack s.par r) .outOfRange (startTransact s.par.cmdSendMsAbs .status) s

/-- R312, U12: `set_config`. -/
def opSetConfig (c : DeviceConfig) (s : State) : Answer :=
  if cfgWellFormed s.par c then startTransact s.par.cmdSetParaCfg .status (cfgEncode s.par c) s
  else .refused .illFormedConfig

/-- R313: `get_usb_descriptor`. -/
def opGetUsbDescriptor (slot : Nat) (s : State) : Answer :=
  if 2 < slot then raiseEncoding .badSlot s
  else startTransact s.par.cmdGetUsbString (.usbString (BitVec.ofNat 8 slot)) [BitVec.ofNat 8 slot] s

/-- R314: `set_usb_descriptor`. -/
def opSetUsbDescriptor (slot : Nat) (text : Bytes) (s : State) : Answer :=
  match strEncode s.par slot text with
  | .inl e => raiseEncoding e s
  | .inr b => startTransact s.par.cmdSetUsbString .status b s

/-- R364: release: `close()` is called once and the instance is not used again. -/
def opRelease (s : State) : Answer := answer .unit { s with thnd := .released, calls := .close :: s.calls }

/-- R58: one pure function: a result, and nothing else changes. STATUS_CHECK called by HOST answers as R186's pseudocode
says, DeviceRejected among it, where R332's table gives it no class: DEDUCED, log entry 30. CFG_GET and CFG_SET answer on a
record that is not well-formed, where CFG_ENCODE is refused (U12): DESIGN CHOICE, log entry 32. -/
def runPure (op : PureOp) (s : State) : Answer :=
  match op with
  | .sum8 b => answer (.byte (sum8 b)) s
  | .encode addr cmd payload => opEncode addr cmd payload s
  | .validFrame f => answer (.bool (validFrame f)) s
  | .findHeader b => answer (.index (findHeader b)) s
  | .correlate p f => answer (.bool (correlate s.par p f.addr f.cmd)) s
  | .statusCheck payload => .next (s.reply (statusCheck s.par payload))
  | .cfgDecode payload => opCfgDecode payload s
  | .cfgEncode c => opCfgEncode c s
  | .cfgGet c v => answer (cfgGet s.par c v) s
  | .cfgSet c a => opCfgSet c a s
  | .zpad b w => answer (.bytes (zpad b w)) s
  | .zstrip raw => answer (.bytes (zstrip raw)) s
  | .strEncode slot text => opStrEncode slot text s
  | .strDecode payload => opStrDecode payload s
  | .infoDecode payload => opInfoDecode payload s
  | .kbPack r => packed (kbPack s.par r) .tooManyKeys (fun b => answer (.bytes b)) s
  | .msRelPack r => packed (msRelPack s.par r) .outOfRange (fun b => answer (.bytes b)) s
  | .msAbsPack r => packed (msAbsPack s.par r) .outOfRange (fun b => answer (.bytes b)) s

/-- R2: one operation of an instance that is not released. -/
def runHeld (op : HostOp) (s : State) : Answer :=
  match op with
  | .pure op => runPure op s
  | .rxPush chunk => opRxPush chunk s
  | .tryParse => opTryParse s.rxbuf s
  | .tryParseOf buf => opTryParse buf s
  | .parseStep => opParseStep s
  | .drain => opDrain s
  | .serialFeed chunk => opSerialFeed chunk s
  | .transact cmd payload h => opTransact cmd payload h s
  | .getInfo => startTransact s.par.cmdGetInfo .info [] s
  | .sendKeyboard r => opSendKeyboard r s
  | .sendMouseRel r => opSendMouseRel r s
  | .sendMouseAbs r => opSendMouseAbs r s
  | .getConfig => startTransact s.par.cmdGetParaCfg .config [] s
  | .setConfig c => opSetConfig c s
  | .getUsbDescriptor slot => opGetUsbDescriptor slot s
  | .setUsbDescriptor slot text => opSetUsbDescriptor slot text s
  | .setConfigToDefault => startTransact s.par.cmdSetDefaultCfg .status [] s
  | .chipReset => startTransact s.par.cmdReset .status [] s
  | .release => opRelease s

/-- R2, R364, U11: one operation. -/
def runOp (op : HostOp) (s : State) : Answer :=
  if s.thnd = .released then .refused .afterRelease else runHeld op s

end Sys2Proof.Machine
end

