-- ==== Sys2Proof/Machine/Sequencer.lean ====
section
/-! DEFINITION. SEQR, one position of TRANSACT at a time (R297): where FC fetches a request (from `TXR`) and a response
(from `RXBUF`), the deadline, the read, and between transactions the next operation of HOST. -/

namespace Sys2Proof.Machine

/-- S1 to S5 as R297 writes them, with the handler in the handler register. -/
def transmitTxr (s : State) : Answer := transmit s.txr.addr s.txr.cmd s.txr.payload s.hnd s

/-- S1 to S5: the frame that ENCODE makes of `TXR` is the request to run; what is no request of the opcode table is sent
as it stands (R96, R97). -/
def sendStep (s : State) : Answer :=
  match encodeFrame s.txr.addr s.txr.cmd s.txr.payload with
  | some frame =>
    match decode s.par frame with
    | .instr i _ =>
      if i.isResponse then transmitTxr s else exec i s
    | _ => transmitTxr s
  | none => transmitTxr s

/-- R187: the handler is the one of the command's row (a direct TRANSACT may bring another). -/
def handlerOwns (k : Command) (h : Handler) : Bool :=
  match k, h with
  | .getInfo, .info | .getParaCfg, .config | .getUsbString, .usbString _ => true
  | .sendKbGeneral, .status | .sendMsAbs, .status | .sendMsRel, .status | .setParaCfg, .status
  | .setUsbString, .status | .setDefaultCfg, .status | .reset, .status => true
  | _, _ => false

/-- S6 for a delivered frame: a response of the opcode table runs, where the transaction has its row's handler; any other
frame (an echoed request, R67; a code of no row, R97; a response to a direct TRANSACT with another handler) is matched
against `PEND` like it, goes to the handler when it correlates, and is dropped when it does not (R297, R301). -/
def takeFrame (f : Frame) (s : State) : Answer :=
  match decodeFrame s.par f with
  | some i =>
    if i.isResponse && handlerOwns i.command s.hnd then exec i s
    else respond f.addr f.cmd (handleReply s.par s.hnd f.payload) s
  | none => respond f.addr f.cmd (handleReply s.par s.hnd f.payload) s

/-- S6: one PARSE_STEP; a discard event goes round again (R302), `Incomplete` and `NoHeader` go on to S7. -/
def parsePosStep (s : State) : Answer :=
  match (tryParse s.rxbuf).frame with
  | some f => takeFrame f s.parseStep
  | none =>
    match (tryParse s.rxbuf).outcome with
    | .sumError | .frameOk => .next s.parseStep
    | .incomplete | .noHeader => .next { s.parseStep with pos := .deadline }

/-- S7: the deadline (R304). -/
def deadlineStep (s : State) : Answer :=
  if s.env.deadlines.now then .next (s.sampleDeadline.finish (.soft .timeout))
  else .next { s.sampleDeadline with pos := .read }

/-- S8: `is_open`, `read`, RX_PUSH (R299, R305). -/
def readStep (s : State) : Answer :=
  if s.env.opens.now then
    let s1 := s.askOpen
    match s1.env.reads.now with
    | .hangs => .fault .readNeverReturns
    | .fails e => .next (s1.callRead.finish (transportReply (.readFailed e)))
    | .bytes chunk =>
      match s1.callRead.rxPush (chunk.take s.par.readMax) with
      | some s2 => .next { s2 with pos := .parse }
      | none => .next (s1.callRead.finish (.hard .rxOverflow))
  else .next (s.askOpen.finish (transportReply .closed))

/-- R350: between operations FC is idle; the next call of HOST is taken when there is one. -/
def idleStep (s : State) : Answer :=
  match s.ops with
  | [] => .next s
  | op :: rest => runOp op { s with ops := rest }

/-- R297: FC's own move from its position. -/
def moveStep (s : State) : Answer :=
  match s.pos with
  | .idle => idleStep s
  | .send => sendStep s
  | .sendDirect => transmitTxr s
  | .parse => parsePosStep s
  | .deadline => deadlineStep s
  | .read => readStep s

/-- R9, R351: one step of FC, under parameters an instantiation may take (R12, R22): a call of a pure function that comes
now, at whatever position, or FC's own move. -/
def seqStep (s : State) : Answer :=
  if s.par.wf then
    match s.aside.headD none with
    | some op => runOp (.pure op) s.takeTurn
    | none => moveStep s.takeTurn
  else .refused .badConfiguration

/-- R187: the handler of a response row; the get-usb-string handler asks for the slot DATA begins with. -/
def handlerOf (par : Params) (cmd : Byte) (data : Bytes) : Handler :=
  match responseOf par cmd with
  | some .getInfo => .info
  | some .getParaCfg => .config
  | some .getUsbString => .usbString (byteAt data 0)
  | _ => .status

/-- A request frame where FC fetches a request: in `TXR`, SEQR before S1 with nothing outstanding. -/
def placeRequest (f : Bytes) (s : State) : State :=
  { s with txr := ⟨byteAt f 2, byteAt f 3, slice f 5 (f.length - 1)⟩, pend := none, pos := .send, aside := [] }

/-- A response frame where FC fetches a response: in `RXBUF`, SEQR at S6 of a transaction that waits for it. -/
def placeResponse (f : Bytes) (s : State) : State :=
  { s with
    rxbuf := f
    pend  := some ⟨byteAt f 2, reqCode (byteAt f 3)⟩
    hnd   := handlerOf s.par (byteAt f 3) (slice f 5 (f.length - 1))
    pos   := .parse
    aside := [] }

/-- R84: the direction bit of CMD says from where FC fetches the frame. -/
def placeFrame (f : Bytes) (s : State) : State :=
  if (byteAt f 3).msb then placeResponse f s else placeRequest f s

end Sys2Proof.Machine
end

