-- ==== Sys2Proof/Machine/Step.lean ====
section
/-! DEFINITION. One step of FC, and the placing of an instruction where the next step fetches it. -/

namespace Sys2Proof.Machine

/-- One step of FC (R9, R297). -/
def step (s : State) : Host.Outcome State Fault Refusal := seqStep s

/-- The frame that a word of the opcode table begins, placed where the next step fetches it (log entry 10). -/
def State.withFetchWord (s : State) (nbits w : Nat) : State := placeFrame (wordFrame nbits w) s

end Sys2Proof.Machine
end

