-- ==== Sys2Proof/Safety.lean ====
section
/-! DEFINITION. What counts as a good state and a good run of FC, in the terms the statements use: the invariant every step
keeps, the bound on `RXBUF`, the states a request or a response leaves, and buffers fed in chunks. -/

namespace Sys2Proof.Machine

/-! ## The invariant -/

/-- R23: a frame that may be delivered: its header, its LEN and its SUM are right. -/
def FrameSound (f : Frame) : Prop :=
  f.header = 0x57AB#16 ∧ f.len.toNat = f.payload.length ∧ f.sum = sum8 (framePrefix f.addr f.cmd f.payload)

/-- R23: whatever `FR` delivers is sound. -/
def State.FrOk (s : State) : Prop := s.fr.valid = true → FrameSound s.fr.frame

/-- R297, R306: SEQR waits for a response. -/
def SeqPos.waiting : SeqPos → Bool
  | .parse | .deadline | .read => true
  | .idle | .send | .sendDirect => false

/-- R297: SEQR stands before S1. -/
def SeqPos.sending : SeqPos → Bool
  | .send | .sendDirect => true
  | .idle | .parse | .deadline | .read => false

/-- R26, R306, R364: `PEND` holds a request exactly while SEQR waits for its response, and a released instance is idle. -/
def State.SeqOk (s : State) : Prop :=
  s.pend.isSome = s.pos.waiting ∧ (s.thnd = .released → s.pos = .idle)

/-- R150: the byte-serial registers agree with their phase. -/
def SerialRegs.Ok (r : SerialRegs) : Prop :=
  match r.ph with
  | .hunt0 | .hunt1 => True
  | .addr => r.acc = sum8 [hdr0, hdr1]
  | .cmd => r.acc = sum8 [hdr0, hdr1, r.fAddr]
  | .len => r.acc = sum8 [hdr0, hdr1, r.fAddr, r.fCmd]
  | .data =>
    r.acc = sum8 ([hdr0, hdr1, r.fAddr, r.fCmd, r.fLen] ++ r.pay) ∧ r.cnt = r.pay.length ∧ r.cnt < r.fLen.toNat
  | .sum => r.acc = sum8 ([hdr0, hdr1, r.fAddr, r.fCmd, r.fLen] ++ r.pay) ∧ r.pay.length = r.fLen.toNat

/-- The invariant of FC: `FR` is sound (R23), `PEND` agrees with the position (R306), `RXBUF` fits its capacity (R22) and
the byte-serial registers agree with their phase (R150). -/
structure State.Inv (s : State) : Prop where
  frOk  : s.FrOk
  seqOk : s.SeqOk
  memOk : Memory.wf s.par s.rxbuf = true
  serOk : s.ser.Ok

/-! ## The bound on RXBUF under TRANSACT (R374) -/

/-- R374: what a drain leaves: nothing, a single `0x57`, or an incomplete candidate of fewer than 261 bytes with fewer than
`m` bytes of noise before it. -/
def Drained (m : Nat) (b : Bytes) : Prop :=
  b = [] ∨ b = [hdr0] ∨
    ∃ h, findHeader b = some h ∧ h < m ∧ b.length - h ≤ 260 ∧ (tryParse b).outcome = .incomplete

/-- R374: what `RXBUF` holds under TRANSACT: a drained buffer followed by at most one chunk of `m` bytes. -/
def Reached (m : Nat) (b : Bytes) : Prop :=
  ∃ old chunk, Drained m old ∧ chunk.length ≤ m ∧ b = old ++ chunk

/-- R374: the operation appends to `RXBUF` outside TRANSACT. -/
def HostOp.isPush : HostOp → Bool
  | .rxPush _ => true
  | _ => false

/-- R374: no direct RX_PUSH is waiting, `RXBUF` is reached by TRANSACT alone, and at S7 and S8 it is drained. -/
def State.BufInv (s : State) : Prop :=
  s.ops.all (fun op => !op.isPush) = true ∧ 0 < s.par.readMax ∧ Reached s.par.readMax s.rxbuf ∧
    (s.pos = .deadline ∨ s.pos = .read → Drained s.par.readMax s.rxbuf)

/-! ## States that operations leave -/

/-- R295, R364: a request may be sent. -/
def State.Ready (s : State) : Prop := s.thnd = .held ∧ s.pend = none

/-- R297 S1: `SEQ` has grown by one and `TXR` is dead. -/
def State.started (s : State) : State :=
  { s with seq := s.seq + 1, txr := Config.freeTxr s.free, free := s.free + 1 }

/-- R297 S1 to S5: the state after the request's frame has been fully written. -/
def State.sent (s : State) (addr cmd : Byte) (payload : Bytes) (h : Handler) : State :=
  { s.started with
    rxbuf := if s.par.flushOnRequest then [] else s.rxbuf
    pend  := some ⟨addr, cmd⟩
    hnd   := h
    pos   := .parse
    calls := .write (frameBytes addr cmd payload) :: .isOpen :: s.calls
    env   := { s.env with opens := s.env.opens.tail, writes := s.env.writes.tail } }

/-- R306: the state after the operation in progress has ended with a result. -/
def State.ended (s : State) (r : Reply) : State := { s with pend := none, pos := .idle, replies := r :: s.replies }

/-- R163: the pending request is the command's, at the address the response must match. -/
def State.Awaits (s : State) (k : Command) (addr : Byte) : Prop :=
  ∃ a, s.pend = some ⟨a, s.par.code k⟩ ∧ (s.par.corrAddr = true → addr = a)

/-- R186: the reply STATUS_CHECK gives on a status payload. -/
def StatusReplyIs (par : Params) (data : Bytes) (r : Reply) : Prop :=
  (data = [] ∧ r = .soft (.deviceRejected .emptyStatus)) ∨
  (∃ rest, data = par.statusOk :: rest ∧ r = .ok .unit) ∨
  (∃ b rest, data = b :: rest ∧ b ≠ par.statusOk ∧ r = .soft (.deviceRejected (.status b)))

/-- R178, R180: the selector and the text bound that a request's DATA must meet before it is sent. -/
def Admitted (par : Params) : Instr → Prop
  | .reqGetUsbString _ d => ∃ slot rest, d = slot :: rest ∧ slot.toNat ≤ 2
  | .reqSetUsbString _ d => ∃ slot rest, d = slot :: rest ∧ slot.toNat ≤ 2 ∧ d.length ≤ par.strMax + 2
  | _ => True

/-! ## Buffers fed in chunks (R142, R144) -/

/-- R142: push each chunk and parse once after it; the results and what stays in the buffer. -/
def feedParse : Bytes → List Bytes → List ParseResult × Bytes
  | b, [] => ([], b)
  | b, c :: cs =>
    let r := tryParse (b ++ c)
    let (rs, b') := feedParse ((b ++ c).drop r.consumed) cs
    (r :: rs, b')

/-- R144: push each chunk and drain after it, in the machine; the events of all drains in order. -/
def feedDrain : State → List Bytes → List Event × State
  | s, [] => ([], s)
  | s, c :: cs =>
    match s.rxPush c with
    | some t =>
      let (es, u) := feedDrain t.drain.2 cs
      (t.drain.1 ++ es, u)
    | none => feedDrain s cs

/-- R144, R331: no push is refused when each chunk is pushed and the buffer drained after it: every push fits the capacity,
where there is one. -/
def PushesFit : State → List Bytes → Prop
  | _, [] => True
  | s, c :: cs =>
    (∀ cap, s.par.rxbufCap = some cap → s.rxbuf.length + c.length ≤ cap) ∧
    PushesFit ({ s with rxbuf := s.rxbuf ++ c } : State).drain.2 cs

/-- R317: how many frames FC has written. -/
def State.writesMade (s : State) : Nat :=
  (s.calls.filter fun c => match c with | .write _ => true | _ => false).length

/-- R364: how often FC has called `close()`. -/
def State.closesMade (s : State) : Nat := (s.calls.filter fun c => c == .close).length

/-! ## DeviceConfig components (R206, R223) -/

/-- R206: the component that a row of `CFG_LAYOUT` names holds the row's range of the payload, stripped for a string. -/
def RowDecoded (c : DeviceConfig) (p : Bytes) (r : CfgRow) : Prop :=
  let raw := (p.drop r.offset).take r.width
  match r.field with
  | .workMode         => raw = [c.workMode]
  | .serialMode       => raw = [c.serialMode]
  | .chipAddr         => raw = [c.chipAddr]
  | .addrRsvd         => c.addrRsvd = raw
  | .baud             => c.baud = raw
  | .packetInterval   => c.packetInterval = raw
  | .vid              => c.vid = raw
  | .pid              => c.pid = raw
  | .kbSubmitInterval => c.kbSubmitInterval = raw
  | .kbReleaseDelay   => c.kbReleaseDelay = raw
  | .autoEnter        => raw = [c.autoEnter]
  | .enterChars       => c.enterChars = zstrip raw
  | .filter           => c.filter = zstrip raw
  | .descEnable       => raw = [c.descEnable]
  | .fastSubmit       => raw = [c.fastSubmit]
  | .tailRsvd         => c.tailRsvd = raw


/-- R223: the component a CFG_SET addresses. -/
def assignField : CfgAssign → CfgField
  | .num f _ => numFieldOf f
  | .flag f _ => flagFieldOf f
  | .desc _ _ => .descEnable
  | .str f _ => strFieldOf f

/-- R223: the encoding of the value inside the range of its component, given the byte that stood there. -/
def assignBytes (par : Params) (old : Byte) : CfgAssign → Bytes
  | .num f v => numBytes (cfgRow par (numFieldOf f)).kind (cfgRow par (numFieldOf f)).width v.toNat
  | .flag _ t => [if t then 0x01#8 else 0x00#8]
  | .desc f t => [setMaskBit old (descBit par f) t]
  | .str _ s => zpad s zstrWidth

/-! ## The environment's obligations (R318) -/

/-- R318, R376: no call into the transport hangs. -/
def Env.Returns (e : Env) : Prop :=
  e.reads.rest ≠ .hangs ∧ (∀ a ∈ e.reads.head, a ≠ .hangs)

/-! ## Whose turn a step is (R351) -/

/-- R297, R351: no call of a pure function comes in, so FC itself moves from `s₀`; `s` is `s₀` with that entry of HOST's
schedule taken (`s₀` itself where there is no schedule). -/
def State.Turn (s₀ s : State) : Prop :=
  s₀.par.wf = true ∧ s₀.aside.headD none = none ∧ s = { s₀ with aside := s₀.aside.tail }

/-- R297, R350: FC is idle and holds its handle, it is FC's turn, and HOST's next operation is `op`; `s` is `s₀` with the
call taken. -/
def State.Invokes (s₀ : State) (op : HostOp) (s : State) : Prop :=
  ∃ rest t, s₀.Turn t ∧ t.pos = .idle ∧ t.thnd = .held ∧ t.ops = op :: rest ∧ s = { t with ops := rest }

/-- R58, R351: HOST calls a pure function now, between operations or, whatever FC's position, while one is outstanding;
`s` is `s₀` with the call taken. -/
def State.Asks (s₀ : State) (op : PureOp) (s : State) : Prop :=
  s₀.Invokes (.pure op) s ∨
  (s₀.par.wf = true ∧ s₀.thnd = .held ∧ s₀.aside.headD none = some op ∧ s = { s₀ with aside := s₀.aside.tail })

/-- R297: what TRANSACT's start leaves: the operands in `TXR`, the handler, and S1 next. -/
def State.toSend (s : State) (cmd : Byte) (payload : Bytes) (h : Handler) : State :=
  { s with txr := ⟨s.par.devAddr, cmd, payload⟩, hnd := h, pos := .send }

/-- What an operation that only returns a result leaves. -/
def State.replied (s : State) (r : Reply) : State := { s with replies := r :: s.replies }

end Sys2Proof.Machine
end

