-- ==== Sys2Proof/Certificates/Slice0/Obligations.lean ====
section
/-! DEFINITION. The statements for the provers. Byte literals are the spec's; parameters are quantified over R12. A mark
`D<n>` names a decision of spec/92_eei_decisions.md on which a clause rests: a choice the spec marks as its own. -/

open Sys2Proof Sys2Proof.Machine

/-! ## Frames as encodings -/

/-- Frames written out in spec/95_test_vectors.md V55 (and X1's response completed by V7) decode to their instructions;
the codes other than get-info's are parameter defaults (log entry 4). -/
def Obligations.WrittenOutFramesDecode : Prop :=
  decode Params.default [0x57#8, 0xAB#8, 0x00#8, 0x01#8, 0x00#8, 0x03#8] = .instr (.reqGetInfo 0x00#8) [] ∧
  decode Params.default
      [0x57#8, 0xAB#8, 0x00#8, 0x81#8, 0x0A#8, 0x30#8, 0x01#8, 0x03#8, 0#8, 0#8, 0#8, 0#8, 0#8, 0#8, 0#8, 0xC1#8] =
    .instr (.rspGetInfo 0x00#8 [0x30#8, 0x01#8, 0x03#8, 0#8, 0#8, 0#8, 0#8, 0#8, 0#8, 0#8]) [] ∧
  decode Params.default
      [0x57#8, 0xAB#8, 0x00#8, 0x04#8, 0x07#8, 0x02#8, 0x01#8, 0x64#8, 0x00#8, 0xC8#8, 0x00#8, 0x00#8, 0x3C#8] =
    .instr (.reqSendMsAbs 0x00#8 [0x02#8, 0x01#8, 0x64#8, 0x00#8, 0xC8#8, 0x00#8, 0x00#8]) [] ∧
  decode Params.default [0x57#8, 0xAB#8, 0x00#8, 0x82#8, 0x01#8, 0x00#8, 0x85#8] =
    .instr (.rspSendKbGeneral 0x00#8 [0x00#8]) [] ∧
  decode Params.default [0x57#8, 0xAB#8, 0x00#8, 0x0A#8, 0x01#8, 0x00#8, 0x0D#8] =
    .instr (.reqGetUsbString 0x00#8 [0x00#8]) [] ∧
  decode Params.default [0x57#8, 0xAB#8, 0x00#8, 0x8F#8, 0x01#8, 0x00#8, 0x92#8] = .instr (.rspReset 0x00#8 [0x00#8]) []

/-- Decoding the frame of any well-formed instruction, with any bytes behind it, gives the instruction and those bytes
(R80, R93, R116 d), under every parameter choice of R12. -/
def Obligations.DecodeOfEncodeGivesTheInstruction : Prop :=
  ∀ (par : Params) (i : Instr) (rest : Bytes), par.wf = true → i.wellFormed par = true →
    decode par (encode par i ++ rest) = .instr i rest

/-- Bytes that decode to an instruction are noise, the frame of that instruction and the remainder; the frame stands at
the leftmost header and the instruction is well-formed (R80, R93, R134). -/
def Obligations.DecodedBytesHoldTheEncoding : Prop :=
  ∀ (par : Params) (b rest : Bytes) (i : Instr), par.wf = true → decode par b = .instr i rest →
    i.wellFormed par = true ∧
      ∃ noise, b = noise ++ encode par i ++ rest ∧ findHeader b = some noise.length

/-- No prefix word belongs to two rows of the opcode table (R88). -/
def Obligations.OpcodeRowsDoNotOverlap : Prop :=
  ∀ w : BitVec 40, (opcodeTable.filter fun r => r.has w).length ≤ 1

/-- With the default parameters the decoder of fields and the opcode table agree: an instruction found is the row's to
which the prefix word belongs, and where none is found the word belongs to no row (R88, R93). -/
def Obligations.DecoderAgreesWithTheOpcodeTable : Prop :=
  ∀ (addr cmd : Byte) (data : Bytes), data.length ≤ 255 →
    (∀ i, decodeFields Params.default addr cmd data = some i →
      ∃ r ∈ opcodeTable, r.mnemonic = i.mnemonic ∧
        r.has (prefixWord addr cmd (BitVec.ofNat 8 data.length)) = true) ∧
    (decodeFields Params.default addr cmd data = none →
      ∀ r ∈ opcodeTable, r.has (prefixWord addr cmd (BitVec.ofNat 8 data.length)) = false)

/-! ## SUM8, ENCODE, VALID_FRAME -/

/-- R111: SUM8 is the sum of the bytes modulo 256. -/
def Obligations.ChecksumIsTheSumModulo256 : Prop :=
  ∀ b : Bytes, (sum8 b).toNat = (b.map BitVec.toNat).sum % 256

/-- R112 (a) to (e): concatenation; the header's constant and the frame's SUM; order; one changed byte; two changes that
cancel. -/
def Obligations.ChecksumLaws : Prop :=
  (∀ a b : Bytes, sum8 (a ++ b) = sum8 a + sum8 b) ∧
  (sum8 [0x57#8, 0xAB#8] = 0x02#8 ∧
    ∀ (addr cmd : Byte) (payload : Bytes),
      sum8 (framePrefix addr cmd payload) =
        0x02#8 + addr + cmd + BitVec.ofNat 8 payload.length + sum8 payload) ∧
  (∀ a b : Bytes, a.Perm b → sum8 a = sum8 b) ∧
  (∀ (b : Bytes) (i : Nat) (v : Byte) (hi : i < b.length),
    sum8 (b.set i v) = sum8 b + (v - b[i]) ∧ (v ≠ b[i] → sum8 (b.set i v) ≠ sum8 b)) ∧
  (∀ (b : Bytes) (i j : Nat) (v w : Byte) (hi : i < b.length) (hj : j < b.length), i ≠ j →
    (v - b[i]) + (w - b[j]) = 0#8 → sum8 ((b.set i v).set j w) = sum8 b)

/-- R116 (a) to (e): the length, every byte, VALID_FRAME, TRY_PARSE of the frame, injectivity. -/
def Obligations.EncodeLaws : Prop :=
  (∀ (addr cmd : Byte) (payload : Bytes), payload.length ≤ 255 →
    ∃ f, encodeFrame addr cmd payload = some f ∧
      f.length = 6 + payload.length ∧
      f.take 5 = [0x57#8, 0xAB#8, addr, cmd, BitVec.ofNat 8 payload.length] ∧
      slice f 5 (5 + payload.length) = payload ∧
      f[5 + payload.length]? = some (sum8 (slice f 0 (5 + payload.length))) ∧
      validFrame f = true ∧
      tryParse f =
        ⟨some ⟨0x57AB#16, addr, cmd, BitVec.ofNat 8 payload.length, payload,
            sum8 (slice f 0 (5 + payload.length))⟩, 6 + payload.length, .frameOk⟩) ∧
  (∀ (a c a' c' : Byte) (p p' f : Bytes), encodeFrame a c p = some f → encodeFrame a' c' p' = some f →
    a = a' ∧ c = c' ∧ p = p')

/-- The operation ENCODE on operands of any size, called between operations or while one is outstanding (R115, R324,
R337, R351): too long a payload, then any operand outside 0..255, raise EncodingError with nothing changed; otherwise
the frame is returned; `TXR` stays (log entry 27). -/
def Obligations.EncodeOperationChecksThenEncodes : Prop :=
  ∀ (s₀ s : State) (addr cmd : Int) (payload : List Int), s₀.Asks (.encode addr cmd payload) s →
    (255 < payload.length → step s₀ = .next (s.replied (.hard (.encoding .payloadTooLong)))) ∧
    (payload.length ≤ 255 → (∃ v ∈ addr :: cmd :: payload, v < 0 ∨ 255 < v) →
      step s₀ = .next (s.replied (.hard (.encoding .outOfRange)))) ∧
    (payload.length ≤ 255 → (∀ v ∈ addr :: cmd :: payload, 0 ≤ v ∧ v ≤ 255) →
      ∃ f, encodeFrame (BitVec.ofInt 8 addr) (BitVec.ofInt 8 cmd) (payload.map (BitVec.ofInt 8)) = some f ∧
        step s₀ = .next (s.replied (.ok (.bytes f))))

/-- The valid frames are exactly the outputs of ENCODE (R115, R117). -/
def Obligations.ValidFramesAreTheEncodings : Prop :=
  ∀ f : Bytes, validFrame f = true ↔ ∃ addr cmd payload, encodeFrame addr cmd payload = some f

/-- R118: what one changed byte does to a valid frame: never valid again; a change among ADDR, CMD, DATA, SUM is a
SumError over the whole frame; a changed header byte moves or removes the header; a changed LEN can leave a shorter valid
frame (V14); in every case the original frame is not delivered. -/
def Obligations.OneChangedByteIsRejected : Prop :=
  (∀ (f : Bytes) (i : Nat) (v : Byte) (hi : i < f.length), validFrame f = true → v ≠ f[i] →
    validFrame (f.set i v) = false ∧
    (i ≠ 0 → i ≠ 1 → i ≠ 4 → tryParse (f.set i v) = ⟨none, f.length, .sumError⟩) ∧
    (i = 0 ∨ i = 1 → findHeader (f.set i v) ≠ some 0) ∧
    (tryParse (f.set i v)).frame ≠ (tryParse f).frame) ∧
  (∃ (f : Bytes) (v : Byte), validFrame f = true ∧ f[4]? ≠ some v ∧
    (tryParse (f.set 4 v)).outcome = .frameOk ∧ (tryParse (f.set 4 v)).consumed < f.length)

/-! ## FIND_HEADER, TRY_PARSE -/

/-- R131: FIND_HEADER returns the least index of an adjacent pair, and `None` exactly when there is none. -/
def Obligations.HeaderIsTheLeftmostPair : Prop :=
  ∀ b : Bytes,
    (∀ h, findHeader b = some h ↔
      (b[h]? = some 0x57#8 ∧ b[h + 1]? = some 0xAB#8 ∧
        ∀ k < h, ¬(b[k]? = some 0x57#8 ∧ b[k + 1]? = some 0xAB#8))) ∧
    (findHeader b = none ↔ ∀ k, ¬(b[k]? = some 0x57#8 ∧ b[k + 1]? = some 0xAB#8))

/-- R134: with a complete candidate at the leftmost header and a matching checksum the frame is delivered and the noise and
the frame are consumed, whatever follows. -/
def Obligations.CompleteFrameIsDelivered : Prop :=
  ∀ (noise payload rest : Bytes) (addr cmd : Byte), findHeader noise = none → payload.length ≤ 255 →
    tryParse (noise ++ frameBytes addr cmd payload ++ rest) =
      ⟨some ⟨0x57AB#16, addr, cmd, BitVec.ofNat 8 payload.length, payload, sum8 (framePrefix addr cmd payload)⟩,
        noise.length + (6 + payload.length), .frameOk⟩

/-- R135: with a complete candidate whose checksum does not match, no frame is delivered and the noise and the whole
candidate are consumed. -/
def Obligations.FailedCandidateIsConsumedWhole : Prop :=
  ∀ (noise payload rest : Bytes) (addr cmd x : Byte), findHeader noise = none → payload.length ≤ 255 →
    x ≠ sum8 (framePrefix addr cmd payload) →
    tryParse (noise ++ (framePrefix addr cmd payload ++ [x]) ++ rest) =
      ⟨none, noise.length + (6 + payload.length), .sumError⟩

/-- R136, R137: a header with fewer bytes behind it than the frame declares, or with LEN not there yet: no frame,
nothing consumed, the noise included. The clause on a LEN that is not there yet is D5. -/
def Obligations.IncompleteCandidateConsumesNothing : Prop :=
  ∀ (noise tail : Bytes), findHeader noise = none →
    (tail.length < 3 ∨ ∃ len, tail[2]? = some len ∧ tail.length < 4 + len.toNat) →
    tryParse (noise ++ [0x57#8, 0xAB#8] ++ tail) = ⟨none, 0, .incomplete⟩

/-- R138: without a header all bytes are consumed, but for a final `0x57`; the bytes consumed can be part of no header
that later bytes complete. What is consumed without a header is D4. -/
def Obligations.NoHeaderKeepsAFinalHeaderByte : Prop :=
  ∀ b more : Bytes, findHeader b = none →
    (tryParse b).frame = none ∧ (tryParse b).outcome = .noHeader ∧
    ((tryParse b).consumed = if b.getLast? = some 0x57#8 then b.length - 1 else b.length) ∧
    findHeader (b ++ more) =
      (findHeader (b.drop (tryParse b).consumed ++ more)).map (· + (tryParse b).consumed)

/-- R145: the bounds on `consumed`. The clause on no header rests on D4. -/
def Obligations.ConsumedStaysInBounds : Prop :=
  ∀ b : Bytes,
    (((tryParse b).outcome = .frameOk ∨ (tryParse b).outcome = .sumError) →
      6 ≤ (tryParse b).consumed ∧ (tryParse b).consumed ≤ b.length) ∧
    ((tryParse b).outcome = .incomplete → (tryParse b).consumed = 0 ∧ 2 ≤ b.length) ∧
    ((tryParse b).outcome = .noHeader → (tryParse b).consumed = b.length ∨ (tryParse b).consumed + 1 = b.length) ∧
    (tryParse b).consumed ≤ b.length ∧
    ((tryParse b).frame.isSome = true → 6 ≤ (tryParse b).consumed)

/-- R142: a valid frame fed in any chunks, with a PARSE_STEP after each, gives exactly one frame once all its bytes
are there and none before, and no byte is lost before completion. That a first byte is kept rests on D4. -/
def Obligations.PartialBufferSafety : Prop :=
  ∀ f : Bytes, validFrame f = true →
    tryParse [] = ⟨none, 0, .noHeader⟩ ∧
    tryParse (f.take 1) = ⟨none, 0, .noHeader⟩ ∧
    (∀ k, 2 ≤ k → k < f.length → tryParse (f.take k) = ⟨none, 0, .incomplete⟩) ∧
    ∃ fr, tryParse f = ⟨some fr, f.length, .frameOk⟩ ∧
      (∀ chunks : List Bytes, chunks.flatten = f →
        (feedParse [] chunks).1.flatMap ParseResult.events = [.frame fr] ∧ (feedParse [] chunks).2 = []) ∧
      (∀ (chunks : List Bytes) (k : Nat), k < f.length → chunks.flatten = f.take k →
        (feedParse [] chunks).1.flatMap ParseResult.events = [] ∧ (feedParse [] chunks).2 = f.take k)

/-- R143: noise without a header pair, then a frame whose header and LEN are intact and whose checksum does not match,
then a valid frame: DRAIN gives one discard event and that frame, and leaves nothing. -/
def Obligations.Resynchronisation : Prop :=
  ∀ (s : State) (noise payload f : Bytes) (addr cmd x : Byte), findHeader noise = none → payload.length ≤ 255 →
    x ≠ sum8 (framePrefix addr cmd payload) → validFrame f = true →
    s.rxbuf = noise ++ (framePrefix addr cmd payload ++ [x]) ++ f →
    ∃ fr, tryParse f = ⟨some fr, f.length, .frameOk⟩ ∧
      tryParse s.rxbuf = ⟨none, noise.length + (6 + payload.length), .sumError⟩ ∧
      tryParse s.parseStep.rxbuf = ⟨some fr, f.length, .frameOk⟩ ∧
      s.drain.1 = [.discard, .frame fr] ∧ s.drain.2.rxbuf = []

/-- R141, R144: DRAIN gives the canonical segmentation of `RXBUF`, leaves a suffix of it that yields nothing more, and
changes nothing but `RXBUF`, `FR` and the free values. -/
def Obligations.DrainGivesTheCanonicalSegmentation : Prop :=
  ∀ s : State,
    s.drain.1 = segment s.rxbuf ∧
    s.drain.2.rxbuf <:+ s.rxbuf ∧
    ((tryParse s.drain.2.rxbuf).outcome = .incomplete ∨ (tryParse s.drain.2.rxbuf).outcome = .noHeader) ∧
    s.drain.2 = { s with rxbuf := s.drain.2.rxbuf, fr := s.drain.2.fr, free := s.drain.2.free }

/-- R144: with DRAIN after every push, whatever the capacity as long as no push is refused, the events of a stream do not
depend on where it was cut into chunks: they are its canonical segmentation. -/
def Obligations.EventsDoNotDependOnChunking : Prop :=
  ∀ (s : State) (chunks : List Bytes), s.rxbuf = [] → PushesFit s chunks →
    (feedDrain s chunks).1 = segment chunks.flatten

/-- R151: the byte-serial machine fed a stream from `HUNT0` emits its canonical segmentation. The machine is D6. -/
def Obligations.SerialParserEmitsTheSegmentation : Prop :=
  ∀ (r : SerialRegs) (b : Bytes), r.ph = .hunt0 → (serialRun r b).2 = segment b

/-! ## The step and the instructions -/

/-- A step that is FC's own move (R351) runs the decoded instruction: before S1 the frame that ENCODE makes of `TXR`;
at S6 the frame that PARSE_STEP takes from `RXBUF`, which has then been consumed with its noise and stands in `FR`
(R133, R140, R297), unless a direct TRANSACT gave another handler than the row's; before S1 of a direct TRANSACT `TXR`
is sent as it stands with HOST's handler. That FC fetches a request from `TXR` and a response from `RXBUF` is the
model's choice (log entries 10, 12). -/
def Obligations.StepRunsTheDecodedInstruction : Prop :=
  ∀ (s₀ s : State) (i : Instr) (rest : Bytes), s₀.Turn s →
    (s.pos = .send → s.txr.payload.length ≤ 255 →
      decode s.par (frameBytes s.txr.addr s.txr.cmd s.txr.payload) = .instr i rest → i.isResponse = false →
      step s₀ = exec i s) ∧
    (s.pos = .parse → decode s.par s.rxbuf = .instr i rest → i.isResponse = true →
      (∀ p, s.pend = some p → correlate s.par p i.addr (instrCmd s.par i) = true →
        handlerOwns i.command s.hnd = true) →
      ∃ f, (tryParse s.rxbuf).frame = some f ∧ f.addr = i.addr ∧ f.cmd = instrCmd s.par i ∧ f.payload = i.data ∧
        step s₀ = exec i { s with rxbuf := rest, fr := ⟨true, f⟩ }) ∧
    (s.pos = .sendDirect → s.Ready → s.txr.payload.length ≤ 255 → s.env.opens.now = true → s.env.writes.now = .ok →
      step s₀ = .next (s.sent s.txr.addr s.txr.cmd s.txr.payload s.hnd))

/-- The eight requests without a selector, in a ready state with an open transport that accepts the write, complete S1
to S5 of TRANSACT: one frame of the command written, `PEND` set, SEQR at S6, and everything else unchanged (R166,
R168, R170, R172, R174, R176, R182, R184, R297). D9, D15, D25, D27; `TXR` is free afterwards (log entry 3); S1 to S5
are one step (log entry 12). -/
def Obligations.PlainRequestsAreSent : Prop :=
  ∀ (s : State) (addr : Byte) (data : Bytes), s.Ready → data.length ≤ 255 → s.env.opens.now = true →
    s.env.writes.now = .ok →
    exec (.reqGetInfo addr) s = .next (s.sent addr s.par.cmdGetInfo [] .info) ∧
    exec (.reqSendKbGeneral addr data) s = .next (s.sent addr s.par.cmdSendKbGeneral data .status) ∧
    exec (.reqSendMsAbs addr data) s = .next (s.sent addr s.par.cmdSendMsAbs data .status) ∧
    exec (.reqSendMsRel addr data) s = .next (s.sent addr s.par.cmdSendMsRel data .status) ∧
    exec (.reqGetParaCfg addr) s = .next (s.sent addr s.par.cmdGetParaCfg [] .config) ∧
    exec (.reqSetParaCfg addr data) s = .next (s.sent addr s.par.cmdSetParaCfg data .status) ∧
    exec (.reqSetDefaultCfg addr) s = .next (s.sent addr s.par.cmdSetDefaultCfg [] .status) ∧
    exec (.reqReset addr) s = .next (s.sent addr s.par.cmdReset [] .status)

/-- get-usb-string, request, in a ready state (R178, R243): with the selector 0, 1 or 2, an open transport and an
accepted write it completes S1 to S5; with any other selector, or none, EncodingError(BadSlot) is returned, nothing is
written and `SEQ` is unchanged. D16, D21, D27; that the frame's own selector is checked is log entry 14. -/
def Obligations.GetUsbStringRequestIsSentOrRefused : Prop :=
  ∀ (s : State) (addr : Byte) (data : Bytes), s.Ready →
    (∀ slot rest, data = slot :: rest → slot.toNat ≤ 2 → data.length ≤ 255 → s.env.opens.now = true →
      s.env.writes.now = .ok →
      exec (.reqGetUsbString addr data) s = .next (s.sent addr s.par.cmdGetUsbString data (.usbString slot))) ∧
    ((data = [] ∨ ∃ slot rest, data = slot :: rest ∧ 2 < slot.toNat) →
      exec (.reqGetUsbString addr data) s = .next (s.dropTxr.ended (.hard (.encoding .badSlot))))

/-- set-usb-string, request, in a ready state (R180, R242, R337): a selector other than 0, 1, 2, or none, is
EncodingError(BadSlot); then a text over `STR_MAX` is EncodingError(StringTooLong); otherwise, with an open transport
and an accepted write, it completes S1 to S5 (a selector alone is sent as it stands: log entry 14). D16, D21, D27;
that the frame's own selector is checked is log entry 14. -/
def Obligations.SetUsbStringRequestIsSentOrRefused : Prop :=
  ∀ (s : State) (addr slot len : Byte) (text : Bytes), s.Ready → s.par.wf = true →
    (slot.toNat ≤ 2 → text.length ≤ s.par.strMax → s.env.opens.now = true → s.env.writes.now = .ok →
      exec (.reqSetUsbString addr (slot :: len :: text)) s =
        .next (s.sent addr s.par.cmdSetUsbString (slot :: len :: text) .status)) ∧
    (2 < slot.toNat →
      exec (.reqSetUsbString addr (slot :: len :: text)) s = .next (s.dropTxr.ended (.hard (.encoding .badSlot)))) ∧
    (slot.toNat ≤ 2 → s.par.strMax < text.length →
      exec (.reqSetUsbString addr (slot :: len :: text)) s =
        .next (s.dropTxr.ended (.hard (.encoding .stringTooLong)))) ∧
    exec (.reqSetUsbString addr []) s = .next (s.dropTxr.ended (.hard (.encoding .badSlot))) ∧
    (2 < slot.toNat → exec (.reqSetUsbString addr [slot]) s = .next (s.dropTxr.ended (.hard (.encoding .badSlot)))) ∧
    (slot.toNat ≤ 2 → s.env.opens.now = true → s.env.writes.now = .ok →
      exec (.reqSetUsbString addr [slot]) s = .next (s.sent addr s.par.cmdSetUsbString [slot] .status))

/-- Every request, and a direct TRANSACT of any code, when the transport fails it (R297 S2, S4, R298, R330): a closed
transport and a failed write are hard failures that leave `PEND` empty; the first writes nothing, the second has made
its one call; a `write` that never returns is the stuck state of R376. The order of the checks is D21 and D27. -/
def Obligations.RequestsReportTransportFailures : Prop :=
  (∀ (s : State) (i : Instr), i.isResponse = false → i.wellFormed s.par = true → Admitted s.par i → s.Ready →
    (s.env.opens.now = false →
      exec i s = .next
        (({ s.started with
            env := { s.env with opens := s.env.opens.tail }, calls := .isOpen :: s.calls } : State).ended
          (.hard (.transport .closed)))) ∧
    (∀ e, s.env.opens.now = true → s.env.writes.now = .fails e →
      exec i s = .next
        (({ s.started with
            rxbuf := if s.par.flushOnRequest then [] else s.rxbuf
            env   := { s.env with opens := s.env.opens.tail, writes := s.env.writes.tail }
            calls := .write (encode s.par i) :: .isOpen :: s.calls } : State).ended
          (.hard (.transport (.writeFailed e))))) ∧
    (s.env.opens.now = true → s.env.writes.now = .hangs → exec i s = .fault .writeNeverReturns)) ∧
  (∀ s₀ s : State, s₀.Turn s → s.pos = .sendDirect → s.Ready → s.txr.payload.length ≤ 255 →
    (s.env.opens.now = false →
      step s₀ = .next
        (({ s.started with
            env := { s.env with opens := s.env.opens.tail }, calls := .isOpen :: s.calls } : State).ended
          (.hard (.transport .closed)))) ∧
    (∀ e, s.env.opens.now = true → s.env.writes.now = .fails e →
      step s₀ = .next
        (({ s.started with
            rxbuf := if s.par.flushOnRequest then [] else s.rxbuf
            env   := { s.env with opens := s.env.opens.tail, writes := s.env.writes.tail }
            calls := .write (frameBytes s.txr.addr s.txr.cmd s.txr.payload) :: .isOpen :: s.calls } : State).ended
          (.hard (.transport (.writeFailed e))))) ∧
    (s.env.opens.now = true → s.env.writes.now = .hangs → step s₀ = .fault .writeNeverReturns))

/-- A request, or a direct TRANSACT, outside the precondition of TRANSACT is outside the model's domain (R295, R351,
R364; U6, U11). Refusing is the spec's treatment of U6 and U11. -/
def Obligations.RequestsNeedAFreeInstance : Prop :=
  (∀ (s : State) (i : Instr), i.isResponse = false →
    (s.thnd = .released → exec i s = .refused .afterRelease) ∧
    (s.thnd = .held → s.pend ≠ none → exec i s = .refused .overlappingTransaction)) ∧
  (∀ s₀ s : State, s₀.Turn s → s.pos = .sendDirect →
    (s.thnd = .released → step s₀ = .refused .afterRelease) ∧
    (s.thnd = .held → s.pend ≠ none → step s₀ = .refused .overlappingTransaction))

/-- A request payload over 255 bytes, of a request instruction or in `TXR` at S1 (where a direct TRANSACT brings one),
is EncodingError(PayloadTooLong): `SEQ` has grown, the transport is not touched (R115, R298, R338). The order of the
checks is D21. -/
def Obligations.OversizedRequestsAreRefusedAtS1 : Prop :=
  (∀ (s : State) (addr : Byte) (data : Bytes), s.Ready → 255 < data.length →
    exec (.reqSendKbGeneral addr data) s = .next (s.started.ended (.hard (.encoding .payloadTooLong))) ∧
    exec (.reqSendMsAbs addr data) s = .next (s.started.ended (.hard (.encoding .payloadTooLong))) ∧
    exec (.reqSendMsRel addr data) s = .next (s.started.ended (.hard (.encoding .payloadTooLong))) ∧
    exec (.reqSetParaCfg addr data) s = .next (s.started.ended (.hard (.encoding .payloadTooLong))) ∧
    (∀ slot rest, data = slot :: rest → slot.toNat ≤ 2 →
      exec (.reqGetUsbString addr data) s = .next (s.started.ended (.hard (.encoding .payloadTooLong))))) ∧
  (∀ s₀ s : State, s₀.Turn s → s.pos.sending = true → s.Ready → 255 < s.txr.payload.length →
    step s₀ = .next (s.started.ended (.hard (.encoding .payloadTooLong))))

/-- The seven ACK-only responses, correlated with `PEND`, end the transaction with what STATUS_CHECK says of their
payload, and change nothing else (R169, R171, R173, R177, R181, R183, R185, R186, R306). D12, D17, D20. -/
def Obligations.StatusResponsesEndTheTransaction : Prop :=
  ∀ (s : State) (addr : Byte) (data : Bytes), ∃ r, StatusReplyIs s.par data r ∧
    (s.Awaits .sendKbGeneral addr → exec (.rspSendKbGeneral addr data) s = .next (s.ended r)) ∧
    (s.Awaits .sendMsAbs addr → exec (.rspSendMsAbs addr data) s = .next (s.ended r)) ∧
    (s.Awaits .sendMsRel addr → exec (.rspSendMsRel addr data) s = .next (s.ended r)) ∧
    (s.Awaits .setParaCfg addr → exec (.rspSetParaCfg addr data) s = .next (s.ended r)) ∧
    (s.Awaits .setUsbString addr → exec (.rspSetUsbString addr data) s = .next (s.ended r)) ∧
    (s.Awaits .setDefaultCfg addr → exec (.rspSetDefaultCfg addr data) s = .next (s.ended r)) ∧
    (s.Awaits .reset addr → exec (.rspReset addr data) s = .next (s.ended r))

/-- The get-info response, correlated with `PEND` (R167, R262, R303): `INFO_SIZE` bytes give the DeviceInfo of
`INFO_LAYOUT`, any other number is DeviceRejected(Decode(BadLength)). D12, D17, D18. -/
def Obligations.GetInfoResponseEndsTheTransaction : Prop :=
  ∀ (s : State) (addr : Byte) (data : Bytes), s.Awaits .getInfo addr →
    (data.length = s.par.infoSize →
      exec (.rspGetInfo addr data) s = .next (s.ended (.ok (.info
        ⟨data.getD s.par.infoLayout.version 0#8,
         data.getD s.par.infoLayout.usb 0#8 != 0x00#8,
         (data.getD s.par.infoLayout.locks 0#8).getLsbD s.par.infoLayout.numBit,
         (data.getD s.par.infoLayout.locks 0#8).getLsbD s.par.infoLayout.capsBit,
         (data.getD s.par.infoLayout.locks 0#8).getLsbD s.par.infoLayout.scrollBit⟩)))) ∧
    (data.length ≠ s.par.infoSize →
      exec (.rspGetInfo addr data) s = .next (s.ended (.soft (.deviceRejected (.decode .badLength)))))

/-- The get-parameter-config response, correlated with `PEND` (R175, R206, R222, R303): `CFG_SIZE` bytes give a
DeviceConfig that encodes back to them byte for byte, any other number is DeviceRejected(Decode(BadLength)). D12, D13,
D17. -/
def Obligations.GetParaCfgResponseEndsTheTransaction : Prop :=
  ∀ (s : State) (addr : Byte) (data : Bytes), s.par.wf = true → s.Awaits .getParaCfg addr →
    (data.length = s.par.cfgSize →
      ∃ c, exec (.rspGetParaCfg addr data) s = .next (s.ended (.ok (.config c))) ∧ cfgEncode s.par c = data) ∧
    (data.length ≠ s.par.cfgSize →
      exec (.rspGetParaCfg addr data) s = .next (s.ended (.soft (.deviceRejected (.decode .badLength)))))

/-- The get-usb-string response, correlated with `PEND` of a request for `slot` (R179, R245, R313): the record of that
slot gives its text; a record of another slot is SlotMismatch; what is no record is Decode(BadLength) or
Decode(BadSlot), the slot being checked before the exact length. D12, D16, D17. -/
def Obligations.GetUsbStringResponseEndsTheTransaction : Prop :=
  ∀ (s : State) (addr slot b n : Byte) (data text : Bytes), s.Awaits .getUsbString addr → s.hnd = .usbString slot →
    (data.length < 2 →
      exec (.rspGetUsbString addr data) s = .next (s.ended (.soft (.deviceRejected (.decode .badLength))))) ∧
    (2 < b.toNat →
      exec (.rspGetUsbString addr (b :: n :: text)) s = .next (s.ended (.soft (.deviceRejected (.decode .badSlot))))) ∧
    (b.toNat ≤ 2 → text.length ≠ n.toNat →
      exec (.rspGetUsbString addr (b :: n :: text)) s = .next (s.ended (.soft (.deviceRejected (.decode .badLength))))) ∧
    (b.toNat ≤ 2 → text.length = n.toNat → b = slot →
      exec (.rspGetUsbString addr (b :: n :: text)) s = .next (s.ended (.ok (.bytes text)))) ∧
    (b.toNat ≤ 2 → text.length = n.toNat → b ≠ slot →
      exec (.rspGetUsbString addr (b :: n :: text)) s = .next (s.ended (.soft (.deviceRejected .slotMismatch))))

/-- A response that does not correlate with `PEND`, or comes with no transaction, is dropped: nothing changes (R163,
R301, R335). D12, D20. -/
def Obligations.UncorrelatedResponsesAreDropped : Prop :=
  ∀ (s : State) (i : Instr), i.isResponse = true →
    (∀ p, s.pend = some p →
      instrCmd s.par i ≠ p.cmd ||| 0x80#8 ∨ (s.par.corrAddr = true ∧ i.addr ≠ p.addr)) →
    exec i s = .next s

/-! ## The wait loop of TRANSACT -/

/-- S6 (R299, R301, R302): a discard event and an uncorrelated frame of any code are consumed and scanning goes on;
with `Incomplete` or `NoHeader` SEQR goes on to S7; nothing but `RXBUF`, `FR` and the position changes. D12, D20; the
fields of an invalid `FR` are free (log entry 2). -/
def Obligations.WaitingParsesUntilACorrelatedFrame : Prop :=
  ∀ s₀ s : State, s₀.Turn s → s.pos = .parse →
    ((tryParse s.rxbuf).outcome = .sumError →
      step s₀ = .next { s with
        rxbuf := s.rxbuf.drop (tryParse s.rxbuf).consumed
        fr := ⟨false, Config.freeFrame s.free⟩
        free := s.free + 1 }) ∧
    ((tryParse s.rxbuf).outcome = .incomplete ∨ (tryParse s.rxbuf).outcome = .noHeader →
      step s₀ = .next { s with
        rxbuf := s.rxbuf.drop (tryParse s.rxbuf).consumed
        fr := ⟨false, Config.freeFrame s.free⟩
        free := s.free + 1
        pos := .deadline }) ∧
    (∀ f, (tryParse s.rxbuf).frame = some f →
      (∀ p, s.pend = some p → f.cmd ≠ p.cmd ||| 0x80#8 ∨ (s.par.corrAddr = true ∧ f.addr ≠ p.addr)) →
      step s₀ = .next { s with rxbuf := s.rxbuf.drop (tryParse s.rxbuf).consumed, fr := ⟨true, f⟩ })

/-- S6 and S9 (R163, R297, R303): a delivered frame of any code that correlates with `PEND` ends the transaction with what
its handler makes of the payload, whatever command was sent and whatever size the payload has (V42); nothing else changes
but `RXBUF` and `FR`. D12, D17, D18. -/
def Obligations.CorrelatedFramesGoToTheHandler : Prop :=
  ∀ (s₀ s : State) (p : Pending) (f : Frame), s₀.Turn s → s.pos = .parse → s.pend = some p →
    (tryParse s.rxbuf).frame = some f → f.cmd = p.cmd ||| 0x80#8 → (s.par.corrAddr = true → f.addr = p.addr) →
    step s₀ = .next (({ s with rxbuf := s.rxbuf.drop (tryParse s.rxbuf).consumed, fr := ⟨true, f⟩ } : State).ended
      (handleReply s.par s.hnd f.payload))

/-- S7 (R304, R323): one sample of the deadline; when it has fired the operation ends as a soft timeout, otherwise
SEQR goes on to S8. D2. -/
def Obligations.DeadlineEndsTheWait : Prop :=
  ∀ s₀ s : State, s₀.Turn s → s.pos = .deadline →
    (s.env.deadlines.now = true →
      step s₀ = .next
        (({ s with env := { s.env with deadlines := s.env.deadlines.tail } } : State).ended (.soft .timeout))) ∧
    (s.env.deadlines.now = false →
      step s₀ = .next { s with env := { s.env with deadlines := s.env.deadlines.tail }, pos := .read })

/-- S8 (R291, R299, R305, R331): a closed transport, a failed read and an overflow are hard failures; otherwise at
most `READ_MAX` bytes are appended, the rest of a chunk waiting for the next `read` (log entry 19), and SEQR parses
again; a `read` that never returns is the stuck state of R376. D7, D27. -/
def Obligations.ReadAppendsOneChunk : Prop :=
  ∀ s₀ s : State, s₀.Turn s → s.pos = .read →
    (s.env.opens.now = false →
      step s₀ = .next (({ s with
        env := { s.env with opens := s.env.opens.tail }, calls := .isOpen :: s.calls } : State).ended
          (.hard (.transport .closed)))) ∧
    (∀ e, s.env.opens.now = true → s.env.reads.now = .fails e →
      step s₀ = .next (({ s with
        env   := { s.env with opens := s.env.opens.tail, reads := s.env.reads.tail }
        calls := .read s.par.readMax :: .isOpen :: s.calls } : State).ended (.hard (.transport (.readFailed e))))) ∧
    (s.env.opens.now = true → s.env.reads.now = .hangs → step s₀ = .fault .readNeverReturns) ∧
    (∀ chunk, s.env.opens.now = true → s.env.reads.now = .bytes chunk →
      (∀ c, s.par.rxbufCap = some c → s.rxbuf.length + (chunk.take s.par.readMax).length ≤ c) →
      step s₀ = .next { s with
        rxbuf := s.rxbuf ++ chunk.take s.par.readMax
        env   := { s.env with opens := s.env.opens.tail, reads := readsLeft s.par.readMax s.env.reads }
        calls := .read s.par.readMax :: .isOpen :: s.calls
        pos   := .parse }) ∧
    (∀ chunk c, s.env.opens.now = true → s.env.reads.now = .bytes chunk →
      s.par.rxbufCap = some c → c < s.rxbuf.length + (chunk.take s.par.readMax).length →
      step s₀ = .next (({ s with
        env   := { s.env with opens := s.env.opens.tail, reads := readsLeft s.par.readMax s.env.reads }
        calls := .read s.par.readMax :: .isOpen :: s.calls } : State).ended (.hard .rxOverflow)))

/-- An echoed request never correlates, whatever request is pending (R67, R379, R163 under R12). D12. -/
def Obligations.EchoedRequestsNeverCorrelate : Prop :=
  ∀ (par : Params) (sent echoed : Command) (a a' : Byte), par.wf = true →
    correlate par ⟨a, par.code sent⟩ a' (par.code echoed) = false

/-- R304, X8: from S6, S7 or S8 of a transaction whose environment returns from every `read` and whose deadline fires
at some sample, the operation ends after finitely many steps with one result, `PEND` empty and SEQR idle, after the
results of the pure functions that HOST has called meanwhile (R351). D2; the environment's answers are a script (log
entry 13). -/
def Obligations.EveryTransactionReturns : Prop :=
  ∀ s : State, s.par.wf = true → s.pos.waiting = true →
    (true ∈ s.env.deadlines.head ∨ s.env.deadlines.rest = true) → s.env.Returns →
    (∀ op, some op ∈ s.aside → s.thnd = .held ∧ ∀ c, op = .cfgEncode c → cfgWellFormed s.par c = true) →
    ∃ k t r rs, Host.Core.run Sys2Proof.core k s = .next t ∧ t.pos = .idle ∧ t.pend = none ∧
      t.replies = r :: (rs ++ s.replies) ∧ rs.length ≤ (s.aside.filter Option.isSome).length

/-! ## HOST's operations -/

/-- The ten typed operations pack their operands and hand the request to SEQR through `TXR`, with `ADDR = DEV_ADDR`
and the handler of the dispatch table; a direct TRANSACT hands over what HOST gave; nothing else changes (R161, R187,
R297, R307 to R316); `set_config` of a record that is not well-formed is outside the domain (R208, U12). D9; the hand-over
through `TXR` is log entry 12. -/
def Obligations.TypedOperationsHandOverTheirRequest : Prop :=
  ∀ s₀ s : State,
    (s₀.Invokes .getInfo s → step s₀ = .next (s.toSend s.par.cmdGetInfo [] .info)) ∧
    (∀ r p, s₀.Invokes (.sendKeyboard r) s → kbPack s.par r = some p →
      step s₀ = .next (s.toSend s.par.cmdSendKbGeneral p .status)) ∧
    (∀ r p, s₀.Invokes (.sendMouseRel r) s → msRelPack s.par r = some p →
      step s₀ = .next (s.toSend s.par.cmdSendMsRel p .status)) ∧
    (∀ r p, s₀.Invokes (.sendMouseAbs r) s → msAbsPack s.par r = some p →
      step s₀ = .next (s.toSend s.par.cmdSendMsAbs p .status)) ∧
    (s₀.Invokes .getConfig s → step s₀ = .next (s.toSend s.par.cmdGetParaCfg [] .config)) ∧
    (∀ c, s₀.Invokes (.setConfig c) s → cfgWellFormed s.par c = true →
      step s₀ = .next (s.toSend s.par.cmdSetParaCfg (cfgEncode s.par c) .status)) ∧
    (∀ c, s₀.Invokes (.setConfig c) s → cfgWellFormed s.par c = false → step s₀ = .refused .illFormedConfig) ∧
    (∀ slot, s₀.Invokes (.getUsbDescriptor slot) s → slot ≤ 2 →
      step s₀ = .next (s.toSend s.par.cmdGetUsbString [BitVec.ofNat 8 slot] (.usbString (BitVec.ofNat 8 slot)))) ∧
    (∀ slot text, s₀.Invokes (.setUsbDescriptor slot text) s → slot ≤ 2 → text.length ≤ s.par.strMax →
      step s₀ = .next (s.toSend s.par.cmdSetUsbString
        (BitVec.ofNat 8 slot :: BitVec.ofNat 8 text.length :: text) .status)) ∧
    (s₀.Invokes .setConfigToDefault s → step s₀ = .next (s.toSend s.par.cmdSetDefaultCfg [] .status)) ∧
    (s₀.Invokes .chipReset s → step s₀ = .next (s.toSend s.par.cmdReset [] .status)) ∧
    (∀ cmd p h, s₀.Invokes (.transact cmd p h) s →
      step s₀ = .next { s.toSend cmd p h with pos := .sendDirect })

/-- A pack error returns HardFailure(EncodingError) before TRANSACT: `SEQ` is unchanged, no transport function is
called, nothing but the result changes (R324, R336, R313). D8, D19, D21. -/
def Obligations.PackErrorsPrecedeTheTransaction : Prop :=
  ∀ s₀ s : State,
    (∀ r, s₀.Invokes (.sendKeyboard r) s → 6 < r.keycodes.length →
      step s₀ = .next (s.replied (.hard (.encoding .tooManyKeys)))) ∧
    (∀ r, s₀.Invokes (.sendMouseRel r) s →
      (r.dx < -128 ∨ 127 < r.dx ∨ r.dy < -128 ∨ 127 < r.dy ∨ r.wheel < -128 ∨ 127 < r.wheel ∨
        r.buttons < 0 ∨ 255 < r.buttons) →
      step s₀ = .next (s.replied (.hard (.encoding .outOfRange)))) ∧
    (∀ r, s₀.Invokes (.sendMouseAbs r) s →
      (r.x < 0 ∨ 65535 < r.x ∨ r.y < 0 ∨ 65535 < r.y ∨ r.wheel < -128 ∨ 127 < r.wheel ∨
        r.buttons < 0 ∨ 255 < r.buttons) →
      step s₀ = .next (s.replied (.hard (.encoding .outOfRange)))) ∧
    (∀ slot, s₀.Invokes (.getUsbDescriptor slot) s → 2 < slot →
      step s₀ = .next (s.replied (.hard (.encoding .badSlot)))) ∧
    (∀ slot text, s₀.Invokes (.setUsbDescriptor slot text) s → 2 < slot →
      step s₀ = .next (s.replied (.hard (.encoding .badSlot)))) ∧
    (∀ slot text, s₀.Invokes (.setUsbDescriptor slot text) s → slot ≤ 2 → s.par.strMax < text.length →
      step s₀ = .next (s.replied (.hard (.encoding .stringTooLong))))

/-- The pure functions other than ENCODE (whose statement is its own), called between operations or, whatever FC's
position, while one is outstanding (R351): the result each returns, with the plain DecodeError of R326 and the EncodingError
of the packers and CFG_SET (R324), and nothing else changes (R58); CFG_ENCODE of a record that is not well-formed is outside
the domain (R208, U12). That STATUS_CHECK called by HOST returns DeviceRejected is log entry 30; that CFG_GET and CFG_SET answer
on such a record is the model's choice (log entry 32). -/
def Obligations.PureOperationsOnlyReply : Prop :=
  ∀ s₀ s : State,
    (∀ b, s₀.Asks (.sum8 b) s → step s₀ = .next (s.replied (.ok (.byte (sum8 b))))) ∧
    (∀ f, s₀.Asks (.validFrame f) s → step s₀ = .next (s.replied (.ok (.bool (validFrame f))))) ∧
    (∀ b, s₀.Asks (.findHeader b) s → step s₀ = .next (s.replied (.ok (.index (findHeader b))))) ∧
    (∀ p f, s₀.Asks (.correlate p f) s →
      step s₀ = .next (s.replied (.ok (.bool (correlate s.par p f.addr f.cmd))))) ∧
    (∀ data, s₀.Asks (.statusCheck data) s →
      ∃ r, StatusReplyIs s.par data r ∧ r = statusCheck s.par data ∧ step s₀ = .next (s.replied r)) ∧
    (∀ data, s₀.Asks (.cfgDecode data) s →
      (∀ c, cfgDecode s.par data = some c → step s₀ = .next (s.replied (.ok (.config c)))) ∧
      (cfgDecode s.par data = none → step s₀ = .next (s.replied (.decodeErr .badLength)))) ∧
    (∀ c, s₀.Asks (.cfgEncode c) s →
      (cfgWellFormed s.par c = true → step s₀ = .next (s.replied (.ok (.bytes (cfgEncode s.par c))))) ∧
      (cfgWellFormed s.par c = false → step s₀ = .refused .illFormedConfig)) ∧
    (∀ c v, s₀.Asks (.cfgGet c v) s → step s₀ = .next (s.replied (.ok (cfgGet s.par c v)))) ∧
    (∀ c a, s₀.Asks (.cfgSet c a) s →
      (∀ c', cfgSet s.par c a = some c' → step s₀ = .next (s.replied (.ok (.config c')))) ∧
      (cfgSet s.par c a = none → step s₀ = .next (s.replied (.hard (.encoding .outOfRange))))) ∧
    (∀ b w, s₀.Asks (.zpad b w) s → step s₀ = .next (s.replied (.ok (.bytes (zpad b w))))) ∧
    (∀ b, s₀.Asks (.zstrip b) s → step s₀ = .next (s.replied (.ok (.bytes (zstrip b))))) ∧
    (∀ slot text, s₀.Asks (.strEncode slot text) s →
      (∀ b, strEncode s.par slot text = .inr b → step s₀ = .next (s.replied (.ok (.bytes b)))) ∧
      (∀ e, strEncode s.par slot text = .inl e → step s₀ = .next (s.replied (.hard (.encoding e))))) ∧
    (∀ data, s₀.Asks (.strDecode data) s →
      (∀ slot text, strDecode data = .inr (slot, text) → step s₀ = .next (s.replied (.ok (.slotText slot text)))) ∧
      (∀ e, strDecode data = .inl e → step s₀ = .next (s.replied (.decodeErr e)))) ∧
    (∀ data, s₀.Asks (.infoDecode data) s →
      (∀ d, infoDecode s.par data = some d → step s₀ = .next (s.replied (.ok (.info d)))) ∧
      (infoDecode s.par data = none → step s₀ = .next (s.replied (.decodeErr .badLength)))) ∧
    (∀ r, s₀.Asks (.kbPack r) s →
      (∀ b, kbPack s.par r = some b → step s₀ = .next (s.replied (.ok (.bytes b)))) ∧
      (kbPack s.par r = none → step s₀ = .next (s.replied (.hard (.encoding .tooManyKeys))))) ∧
    (∀ r, s₀.Asks (.msRelPack r) s →
      (∀ b, msRelPack s.par r = some b → step s₀ = .next (s.replied (.ok (.bytes b)))) ∧
      (msRelPack s.par r = none → step s₀ = .next (s.replied (.hard (.encoding .outOfRange))))) ∧
    (∀ r, s₀.Asks (.msAbsPack r) s →
      (∀ b, msAbsPack s.par r = some b → step s₀ = .next (s.replied (.ok (.bytes b)))) ∧
      (msAbsPack s.par r = none → step s₀ = .next (s.replied (.hard (.encoding .outOfRange)))))

/-- The stateful operations of HOST that start no transaction (R56, R58, R130, R133, R140, R141, R150, R364): RX_PUSH appends
the chunk or refuses it whole; TRY_PARSE, of `RXBUF` or of HOST's own buffer, changes nothing but `FR`; PARSE_STEP removes
exactly `consumed` bytes; DRAIN returns the canonical segmentation of `RXBUF` and leaves `FR` invalid; the byte-serial
parser changes its own registers only; release calls `close()` and gives the handle up. D6, D7, D27. That HOST feeds the
byte-serial parser by an operation, and that its registers stand beside `RXBUF`, is the model's choice (log entry 22); that
TRY_PARSE of HOST's own buffer writes `FR` follows R133, where R361 calls it pure (log entry 31). -/
def Obligations.ReceiveOperations : Prop :=
  ∀ s₀ s : State,
    (∀ chunk, s₀.Invokes (.rxPush chunk) s → (∀ c, s.par.rxbufCap = some c → s.rxbuf.length + chunk.length ≤ c) →
      step s₀ = .next (({ s with rxbuf := s.rxbuf ++ chunk } : State).replied (.ok .unit))) ∧
    (∀ chunk c, s₀.Invokes (.rxPush chunk) s → s.par.rxbufCap = some c → c < s.rxbuf.length + chunk.length →
      step s₀ = .next (s.replied (.hard .rxOverflow))) ∧
    (s₀.Invokes .tryParse s →
      ∃ fr n, step s₀ = .next (({ s with fr := fr, free := n } : State).replied (.ok (.parsed (tryParse s.rxbuf)))) ∧
        fr.valid = (tryParse s.rxbuf).frame.isSome ∧ (∀ f, (tryParse s.rxbuf).frame = some f → fr.frame = f)) ∧
    (s₀.Invokes .parseStep s →
      ∃ fr n, step s₀ = .next (({ s with
            rxbuf := s.rxbuf.drop (tryParse s.rxbuf).consumed, fr := fr, free := n } : State).replied
          (.ok (.parsed (tryParse s.rxbuf)))) ∧
        fr.valid = (tryParse s.rxbuf).frame.isSome ∧ (∀ f, (tryParse s.rxbuf).frame = some f → fr.frame = f)) ∧
    (∀ buf, s₀.Invokes (.tryParseOf buf) s →
      ∃ fr n, step s₀ = .next (({ s with fr := fr, free := n } : State).replied (.ok (.parsed (tryParse buf)))) ∧
        fr.valid = (tryParse buf).frame.isSome ∧ (∀ f, (tryParse buf).frame = some f → fr.frame = f)) ∧
    (s₀.Invokes .drain s →
      step s₀ = .next (({ s with rxbuf := s.drain.2.rxbuf, fr := s.drain.2.fr, free := s.drain.2.free } : State).replied
          (.ok (.events (segment s.rxbuf)))) ∧
        s.drain.2.fr.valid = false) ∧
    (∀ chunk, s₀.Invokes (.serialFeed chunk) s →
      step s₀ = .next (({ s with ser := (serialRun s.ser chunk).1 } : State).replied
        (.ok (.events (serialRun s.ser chunk).2)))) ∧
    (s₀.Invokes .release s →
      step s₀ = .next (({ s with thnd := .released, calls := .close :: s.calls } : State).replied (.ok .unit)))

/-- R364: `close()` is called exactly once, at release: a step keeps "one call if released, none before", and after
release no operation runs. D27; after release U11 refuses. -/
def Obligations.CloseIsCalledOnceAtRelease : Prop :=
  (∀ s t : State, s.closesMade = (if s.thnd = .released then 1 else 0) → step s = .next t →
    t.closesMade = (if t.thnd = .released then 1 else 0)) ∧
  (∀ (s₀ s : State) (op : HostOp) (rest : List HostOp), s₀.Turn s → s.pos = .idle → s.thnd = .released →
    s.ops = op :: rest → step s₀ = .refused .afterRelease) ∧
  (∀ (s : State) (op : PureOp), s.par.wf = true → s.thnd = .released → s.aside.headD none = some op →
    step s = .refused .afterRelease)

/-- R317, R28: a step that is not S1 to S5 writes no frame and leaves `SEQ`; S1 to S5 write at most one frame, count
at most one transaction, and are not followed by another send of the same operation; a call of a pure function that
comes in before S1 leaves all of it as it is (R351). D25. -/
def Obligations.OneTransactionWritesOneFrame : Prop :=
  ∀ s t : State, step s = .next t →
    (s.pos.sending = false → t.writesMade = s.writesMade ∧ t.seq = s.seq) ∧
    (s.pos.sending = true →
      (s.aside.headD none = none → t.pos.sending = false) ∧
      (∀ op, s.aside.headD none = some op → t.pos = s.pos ∧ t.writesMade = s.writesMade ∧ t.seq = s.seq) ∧
      t.seq ≤ s.seq + 1 ∧ s.seq ≤ t.seq ∧
      (t.writesMade = s.writesMade ∨ (t.writesMade = s.writesMade + 1 ∧ t.seq = s.seq + 1)))

/-- R34, R27: no step changes a parameter or `TIMEOUT_CFG`; parameters that break R12, R22 or the bounds of R11's table
are refused as a configuration. -/
def Obligations.StepsKeepTheParameters : Prop :=
  (∀ s t : State, step s = .next t → t.par = s.par ∧ t.timeoutCfg = s.timeoutCfg) ∧
  (∀ s : State, s.par.wf = false → step s = .refused .badConfiguration) ∧
  (∀ s : State,
    ((∃ c, s.par.rxbufCap = some c ∧ c < 261) ∨
      s.par.infoSize < 3 ∨ 255 < s.par.infoSize ∨ s.par.cfgSize < 39 ∨ 255 < s.par.cfgSize ∨ 253 < s.par.strMax ∨
      s.par.readMax = 0 ∨
      (∃ k, (s.par.code k).msb = true) ∨ (∃ k l, k ≠ l ∧ s.par.code k = s.par.code l) ∨
      (∃ f, 7 < descBit s.par f) ∨ (∃ f g, f ≠ g ∧ descBit s.par f = descBit s.par g) ∨
      (∃ r ∈ s.par.cfgLayout, s.par.cfgSize < r.offset + r.width) ∨
      (∃ o < s.par.cfgSize, (s.par.cfgLayout.filter fun r => r.covers o).length ≠ 1)) →
    step s = .refused .badConfiguration)

/-! ## Invariants -/

/-- Every step keeps the invariant: `FR` never delivers a frame with a wrong LEN or SUM (R23), `PEND` is set exactly
while SEQR waits (R306), `RXBUF` fits its capacity (R22), the byte-serial registers agree with their phase (R150). The
clauses on `RXBUF`'s capacity and on the byte-serial registers rest on D7 and on D6 with log entry 22. -/
def Obligations.StepKeepsTheInvariant : Prop :=
  ∀ s t : State, s.Inv → step s = .next t → t.Inv

/-- The invariant holds at reset. D22. -/
def Obligations.ResetMeetsTheInvariant : Prop := State.reset.Inv

/-- R374: under TRANSACT alone `RXBUF` stays bounded: every step keeps the bound's invariant, which at S7 and S8 (after a
drain) gives fewer than `READ_MAX + 260` bytes and at any moment fewer than `2 * READ_MAX + 260`. -/
def Obligations.ReceiveBufferStaysBounded : Prop :=
  (∀ s t : State, s.BufInv → step s = .next t → t.BufInv) ∧
  (∀ s : State, s.BufInv →
    s.rxbuf.length < 2 * s.par.readMax + 260 ∧
    (s.pos = .deadline ∨ s.pos = .read → s.rxbuf.length < s.par.readMax + 260))

/-- With a capacity of at least `2 * READ_MAX + 260`, no step under TRANSACT ends in RxOverflow (R374, R331; the capacity is
D7). -/
def Obligations.LargeCapacityNeverOverflows : Prop :=
  ∀ (s t : State) (c : Nat), s.BufInv → s.par.rxbufCap = some c → 2 * s.par.readMax + 260 ≤ c → step s = .next t →
    t.replies ≠ .hard .rxOverflow :: s.replies

/-- R40: what reset leaves in the elements to which the rule gives a value; FC is idle (R360) with the default
parameters of R11. D22; the model's reset takes the defaults of R11. -/
def Obligations.ResetLeavesAnIdleEngine : Prop :=
  State.reset.rxbuf = [] ∧ State.reset.fr.valid = false ∧ State.reset.pend = none ∧ State.reset.seq = 0 ∧
    State.reset.ser.ph = .hunt0 ∧ State.reset.pos = .idle ∧ State.reset.par = Params.default

/-! ## The record codecs -/

/-- R221: decoding the encoding of a representable record gives the record; of a well-formed record it gives the record
with its strings truncated to 8 bytes and stripped. -/
def Obligations.ConfigDecodeOfEncode : Prop :=
  ∀ (par : Params) (c : DeviceConfig), par.wf = true →
    (cfgRepresentable par c = true → cfgDecode par (cfgEncode par c) = some c) ∧
    (cfgWellFormed par c = true →
      cfgDecode par (cfgEncode par c) =
        some { c with enterChars := zstrip (c.enterChars.take 8), filter := zstrip (c.filter.take 8) })

/-- R206, R222: each component of a decoded record is the range of the payload that its row of `CFG_LAYOUT` gives, stripped
for a string; encoding the decoding of a payload gives the payload, byte for byte; the record is representable. -/
def Obligations.ConfigEncodeOfDecode : Prop :=
  ∀ (par : Params) (p : Bytes), par.wf = true →
    (p.length = par.cfgSize →
      ∃ c, cfgDecode par p = some c ∧ cfgEncode par c = p ∧ cfgRepresentable par c = true) ∧
    (∀ c, cfgDecode par p = some c → ∀ r ∈ par.cfgLayout, RowDecoded c p r) ∧
    (p.length ≠ par.cfgSize → cfgDecode par p = none)

/-- R223: CFG_SET on a decoded record changes the payload inside the range of its component only, where it holds the
encoding of the value; of a mask byte it changes at most the addressed bit. R210, R211, R212: in the record it changes
the component it names and no other: a flag becomes `0x01` or `0x00`, a descriptor flag its bit, a string the bytes given.
That this holds of a record that is not well-formed (R202, R208) too is the model's choice (log entry 32). D10, D14. -/
def Obligations.ConfigSetTouchesOnlyItsRange : Prop :=
  (∀ (par : Params) (p : Bytes) (c c' : DeviceConfig) (a : CfgAssign), par.wf = true → cfgDecode par p = some c →
    cfgSet par c a = some c' →
    ∃ q, cfgEncode par c' = q ∧ q.length = p.length ∧
      (∀ o, (cfgRow par (assignField a)).covers o = false → q[o]? = p[o]?) ∧
      slice q (cfgRow par (assignField a)).offset
          ((cfgRow par (assignField a)).offset + (cfgRow par (assignField a)).width) =
        assignBytes par (p.getD (cfgRow par (assignField a)).offset 0#8) a ∧
      (∀ f t, a = .desc f t → ∀ k, k ≠ descBit par f →
        (q.getD (cfgRow par .descEnable).offset 0#8).getLsbD k =
          (p.getD (cfgRow par .descEnable).offset 0#8).getLsbD k)) ∧
  (∀ (par : Params) (c c' : DeviceConfig), par.wf = true →
    (∀ v, cfgSet par c (.num .workMode v) = some c' → c' = { c with workMode := c'.workMode }) ∧
    (∀ v, cfgSet par c (.num .serialMode v) = some c' → c' = { c with serialMode := c'.serialMode }) ∧
    (∀ v, cfgSet par c (.num .chipAddr v) = some c' → c' = { c with chipAddr := c'.chipAddr }) ∧
    (∀ v, cfgSet par c (.num .baud v) = some c' → c' = { c with baud := c'.baud }) ∧
    (∀ v, cfgSet par c (.num .packetInterval v) = some c' → c' = { c with packetInterval := c'.packetInterval }) ∧
    (∀ v, cfgSet par c (.num .vid v) = some c' → c' = { c with vid := c'.vid }) ∧
    (∀ v, cfgSet par c (.num .pid v) = some c' → c' = { c with pid := c'.pid }) ∧
    (∀ v, cfgSet par c (.num .kbSubmitInterval v) = some c' → c' = { c with kbSubmitInterval := c'.kbSubmitInterval }) ∧
    (∀ v, cfgSet par c (.num .kbReleaseDelay v) = some c' → c' = { c with kbReleaseDelay := c'.kbReleaseDelay }) ∧
    (∀ t, cfgSet par c (.flag .autoEnter t) = some { c with autoEnter := if t then 0x01#8 else 0x00#8 }) ∧
    (∀ t, cfgSet par c (.flag .fastSubmit t) = some { c with fastSubmit := if t then 0x01#8 else 0x00#8 }) ∧
    (∀ t, ∃ m, cfgSet par c (.desc .vendor t) = some { c with descEnable := m } ∧
      ∀ k, m.getLsbD k = if k = par.descEnBits.vendor then t else c.descEnable.getLsbD k) ∧
    (∀ t, ∃ m, cfgSet par c (.desc .product t) = some { c with descEnable := m } ∧
      ∀ k, m.getLsbD k = if k = par.descEnBits.product then t else c.descEnable.getLsbD k) ∧
    (∀ t, ∃ m, cfgSet par c (.desc .serial t) = some { c with descEnable := m } ∧
      ∀ k, m.getLsbD k = if k = par.descEnBits.serial then t else c.descEnable.getLsbD k) ∧
    (∀ b, cfgSet par c (.str .enterChars b) = some { c with enterChars := b }) ∧
    (∀ b, cfgSet par c (.str .filter b) = some { c with filter := b }))

/-- R209, R210, R212: CFG_GET of a flag is true iff its byte is not `0x00`, of a descriptor flag iff its bit of
`desc_enable` is 1, of a numeric field of one, two or four bytes the sum of its bytes by the order of its row; CFG_SET
stores the bytes of the number in that order; CFG_GET after CFG_SET reads the value that was set; a number outside its
field's range is refused, and every other value is accepted. That CFG_GET of `enter_chars` and `filter`
returns the stored bytes is the model's choice (log entry 20), and so is all of this on a record that is not well-formed
(R202, R208; log entry 32). D10, D14. -/
def Obligations.ConfigGetAfterSet : Prop :=
  ∀ (par : Params) (c : DeviceConfig), par.wf = true →
    (cfgGet par c (.flag .autoEnter) = .bool (c.autoEnter != 0x00#8) ∧
      cfgGet par c (.flag .fastSubmit) = .bool (c.fastSubmit != 0x00#8)) ∧
    (cfgGet par c (.desc .vendor) = .bool (c.descEnable.getLsbD par.descEnBits.vendor) ∧
      cfgGet par c (.desc .product) = .bool (c.descEnable.getLsbD par.descEnBits.product) ∧
      cfgGet par c (.desc .serial) = .bool (c.descEnable.getLsbD par.descEnBits.serial)) ∧
    (cfgGet par c (.str .enterChars) = .bytes c.enterChars ∧ cfgGet par c (.str .filter) = .bytes c.filter) ∧
    ([NumField.workMode, .serialMode, .chipAddr, .baud, .packetInterval, .vid, .pid, .kbSubmitInterval,
        .kbReleaseDelay].map (fun f => (numFieldOf f, cfgRaw c (numFieldOf f))) =
      [(.workMode, [c.workMode]), (.serialMode, [c.serialMode]), (.chipAddr, [c.chipAddr]), (.baud, c.baud),
        (.packetInterval, c.packetInterval), (.vid, c.vid), (.pid, c.pid), (.kbSubmitInterval, c.kbSubmitInterval),
        (.kbReleaseDelay, c.kbReleaseDelay)]) ∧
    (∀ f, cfgRow par f ∈ par.cfgLayout ∧ (cfgRow par f).field = f) ∧
    (∀ f b, cfgRaw c (numFieldOf f) = [b] → cfgGet par c (.num f) = .nat b.toNat) ∧
    (∀ f b₀ b₁, cfgRaw c (numFieldOf f) = [b₀, b₁] →
      ((cfgRow par (numFieldOf f)).kind = .bytes .be → cfgGet par c (.num f) = .nat (256 * b₀.toNat + b₁.toNat)) ∧
      ((cfgRow par (numFieldOf f)).kind = .bytes .le → cfgGet par c (.num f) = .nat (b₀.toNat + 256 * b₁.toNat))) ∧
    (∀ f b₀ b₁ b₂ b₃, cfgRaw c (numFieldOf f) = [b₀, b₁, b₂, b₃] →
      ((cfgRow par (numFieldOf f)).kind = .bytes .be → cfgGet par c (.num f) =
        .nat (16777216 * b₀.toNat + 65536 * b₁.toNat + 256 * b₂.toNat + b₃.toNat)) ∧
      ((cfgRow par (numFieldOf f)).kind = .bytes .le → cfgGet par c (.num f) =
        .nat (b₀.toNat + 256 * b₁.toNat + 65536 * b₂.toNat + 16777216 * b₃.toNat))) ∧
    (∀ f v c', cfgSet par c (.num f v) = some c' →
      (cfgRaw c' (numFieldOf f)).length = (cfgRow par (numFieldOf f)).width ∧
      ∀ k b, (cfgRaw c' (numFieldOf f))[k]? = some b →
        ((cfgRow par (numFieldOf f)).kind = .bytes .be →
          b.toNat = v.toNat / 256 ^ ((cfgRow par (numFieldOf f)).width - 1 - k) % 256) ∧
        ((cfgRow par (numFieldOf f)).kind = .bytes .le → b.toNat = v.toNat / 256 ^ k % 256)) ∧
    (∀ f v, 0 ≤ v → v < ((256 ^ (cfgRow par (numFieldOf f)).width : Nat) : Int) →
      ∃ c', cfgSet par c (.num f v) = some c' ∧ cfgGet par c' (.num f) = .nat v.toNat) ∧
    (∀ f v, v < 0 ∨ ((256 ^ (cfgRow par (numFieldOf f)).width : Nat) : Int) ≤ v → cfgSet par c (.num f v) = none) ∧
    (∀ f t, ∃ c', cfgSet par c (.flag f t) = some c' ∧ cfgGet par c' (.flag f) = .bool t) ∧
    (∀ f t, ∃ c', cfgSet par c (.desc f t) = some c' ∧ cfgGet par c' (.desc f) = .bool t ∧
      ∀ g, g ≠ f → cfgGet par c' (.desc g) = cfgGet par c (.desc g)) ∧
    (∀ f b, ∃ c', cfgSet par c (.str f b) = some c' ∧ cfgGet par c' (.str f) = .bytes b)

/-- R214, R215: ZPAD gives exactly the width, keeping the leading bytes and padding with `0x00`; ZSTRIP removes the
trailing zeros and only them; each undoes the other where nothing is lost. D24. -/
def Obligations.StringsPadAndStrip : Prop :=
  (∀ (b : Bytes) (w : Nat), (zpad b w).length = w ∧
    (w ≤ b.length → zpad b w = b.take w) ∧ (b.length ≤ w → zpad b w = b ++ List.replicate (w - b.length) 0x00#8)) ∧
  (∀ raw : Bytes, ∃ n, raw = zstrip raw ++ List.replicate n 0x00#8 ∧ (zstrip raw).getLast? ≠ some 0x00#8) ∧
  (∀ raw : Bytes, zpad (zstrip raw) raw.length = raw) ∧
  (∀ (b : Bytes) (w : Nat), b.length ≤ w → b.getLast? ≠ some 0x00#8 → zstrip (zpad b w) = b)

/-- R247: the two round trips of the USB string record. -/
def Obligations.StringRecordRoundTrips : Prop :=
  ∀ par : Params, par.wf = true →
    (∀ (slot : Nat) (text : Bytes), slot ≤ 2 → text.length ≤ par.strMax →
      ∃ p, strEncode par slot text = .inr p ∧ strDecode p = .inr (slot, text)) ∧
    (∀ (p : Bytes) (slot : Nat) (text : Bytes), strDecode p = .inr (slot, text) → text.length ≤ par.strMax →
      strEncode par slot text = .inr p)

/-- R245, R246: STR_DECODE accepts exactly the records of a known slot whose length byte is right, whatever `STR_MAX`.
D16. -/
def Obligations.StringDecodeAcceptsExactlyRecords : Prop :=
  ∀ (p : Bytes) (slot : Nat) (text : Bytes),
    strDecode p = .inr (slot, text) ↔
      (slot ≤ 2 ∧ text.length ≤ 255 ∧ p = BitVec.ofNat 8 slot :: BitVec.ofNat 8 text.length :: text)

/-- R266, R270, R274 with the default layouts (G7, log entry 6): the payloads of the three reports; the signed bytes
read back as the numbers given (R13). D19. -/
def Obligations.ReportPayloads : Prop :=
  (∀ r : KeyReport, r.keycodes.length ≤ 6 →
    kbPack Params.default r =
      some ([r.modifierMask, 0x00#8] ++ r.keycodes ++ List.replicate (6 - r.keycodes.length) 0x00#8)) ∧
  (∀ r : RelReport, -128 ≤ r.dx → r.dx ≤ 127 → -128 ≤ r.dy → r.dy ≤ 127 → -128 ≤ r.wheel → r.wheel ≤ 127 →
    0 ≤ r.buttons → r.buttons ≤ 255 →
    ∃ b x y w, msRelPack Params.default r = some [0x01#8, b, x, y, w] ∧
      (b.toNat : Int) = r.buttons ∧ x.toInt = r.dx ∧ y.toInt = r.dy ∧ w.toInt = r.wheel) ∧
  (∀ r : AbsReport, 0 ≤ r.x → r.x ≤ 65535 → 0 ≤ r.y → r.y ≤ 65535 → -128 ≤ r.wheel → r.wheel ≤ 127 →
    0 ≤ r.buttons → r.buttons ≤ 255 →
    ∃ b xl xh yl yh w, msAbsPack Params.default r = some [0x02#8, b, xl, xh, yl, yh, w] ∧
      (b.toNat : Int) = r.buttons ∧ (xl.toNat : Int) + 256 * xh.toNat = r.x ∧
      (yl.toNat : Int) + 256 * yh.toNat = r.y ∧ w.toInt = r.wheel)
end

