-- ==== Sys2Proof/Laws/State.lean ====
section
/-! SUPPORT. One lemma per field per update of the state, so that no later proof unfolds a record update. -/

namespace Sys2Proof.Machine

/-! ## finish -/

@[simp] theorem State.finish_par (r : Reply) (s : State) : (s.finish r).par = s.par := rfl
@[simp] theorem State.finish_rxbuf (r : Reply) (s : State) : (s.finish r).rxbuf = s.rxbuf := rfl
@[simp] theorem State.finish_fr (r : Reply) (s : State) : (s.finish r).fr = s.fr := rfl
@[simp] theorem State.finish_txr (r : Reply) (s : State) : (s.finish r).txr = s.txr := rfl
@[simp] theorem State.finish_pend (r : Reply) (s : State) : (s.finish r).pend = none := rfl
@[simp] theorem State.finish_timeoutCfg (r : Reply) (s : State) : (s.finish r).timeoutCfg = s.timeoutCfg := rfl
@[simp] theorem State.finish_seq (r : Reply) (s : State) : (s.finish r).seq = s.seq := rfl
@[simp] theorem State.finish_thnd (r : Reply) (s : State) : (s.finish r).thnd = s.thnd := rfl
@[simp] theorem State.finish_ser (r : Reply) (s : State) : (s.finish r).ser = s.ser := rfl
@[simp] theorem State.finish_pos (r : Reply) (s : State) : (s.finish r).pos = .idle := rfl
@[simp] theorem State.finish_hnd (r : Reply) (s : State) : (s.finish r).hnd = s.hnd := rfl
@[simp] theorem State.finish_ops (r : Reply) (s : State) : (s.finish r).ops = s.ops := rfl
@[simp] theorem State.finish_aside (r : Reply) (s : State) : (s.finish r).aside = s.aside := rfl
@[simp] theorem State.finish_replies (r : Reply) (s : State) : (s.finish r).replies = r :: s.replies := rfl
@[simp] theorem State.finish_calls (r : Reply) (s : State) : (s.finish r).calls = s.calls := rfl
@[simp] theorem State.finish_env (r : Reply) (s : State) : (s.finish r).env = s.env := rfl
@[simp] theorem State.finish_free (r : Reply) (s : State) : (s.finish r).free = s.free := rfl

/-! ## reply -/

@[simp] theorem State.reply_par (r : Reply) (s : State) : (s.reply r).par = s.par := rfl
@[simp] theorem State.reply_rxbuf (r : Reply) (s : State) : (s.reply r).rxbuf = s.rxbuf := rfl
@[simp] theorem State.reply_fr (r : Reply) (s : State) : (s.reply r).fr = s.fr := rfl
@[simp] theorem State.reply_txr (r : Reply) (s : State) : (s.reply r).txr = s.txr := rfl
@[simp] theorem State.reply_pend (r : Reply) (s : State) : (s.reply r).pend = s.pend := rfl
@[simp] theorem State.reply_timeoutCfg (r : Reply) (s : State) : (s.reply r).timeoutCfg = s.timeoutCfg := rfl
@[simp] theorem State.reply_seq (r : Reply) (s : State) : (s.reply r).seq = s.seq := rfl
@[simp] theorem State.reply_thnd (r : Reply) (s : State) : (s.reply r).thnd = s.thnd := rfl
@[simp] theorem State.reply_ser (r : Reply) (s : State) : (s.reply r).ser = s.ser := rfl
@[simp] theorem State.reply_pos (r : Reply) (s : State) : (s.reply r).pos = s.pos := rfl
@[simp] theorem State.reply_hnd (r : Reply) (s : State) : (s.reply r).hnd = s.hnd := rfl
@[simp] theorem State.reply_ops (r : Reply) (s : State) : (s.reply r).ops = s.ops := rfl
@[simp] theorem State.reply_aside (r : Reply) (s : State) : (s.reply r).aside = s.aside := rfl
@[simp] theorem State.reply_replies (r : Reply) (s : State) : (s.reply r).replies = r :: s.replies := rfl
@[simp] theorem State.reply_calls (r : Reply) (s : State) : (s.reply r).calls = s.calls := rfl
@[simp] theorem State.reply_env (r : Reply) (s : State) : (s.reply r).env = s.env := rfl
@[simp] theorem State.reply_free (r : Reply) (s : State) : (s.reply r).free = s.free := rfl

/-! ## dropTxr -/

@[simp] theorem State.dropTxr_par (s : State) : s.dropTxr.par = s.par := rfl
@[simp] theorem State.dropTxr_rxbuf (s : State) : s.dropTxr.rxbuf = s.rxbuf := rfl
@[simp] theorem State.dropTxr_fr (s : State) : s.dropTxr.fr = s.fr := rfl
@[simp] theorem State.dropTxr_txr (s : State) : s.dropTxr.txr = Config.freeTxr s.free := rfl
@[simp] theorem State.dropTxr_pend (s : State) : s.dropTxr.pend = s.pend := rfl
@[simp] theorem State.dropTxr_timeoutCfg (s : State) : s.dropTxr.timeoutCfg = s.timeoutCfg := rfl
@[simp] theorem State.dropTxr_seq (s : State) : s.dropTxr.seq = s.seq := rfl
@[simp] theorem State.dropTxr_thnd (s : State) : s.dropTxr.thnd = s.thnd := rfl
@[simp] theorem State.dropTxr_ser (s : State) : s.dropTxr.ser = s.ser := rfl
@[simp] theorem State.dropTxr_pos (s : State) : s.dropTxr.pos = s.pos := rfl
@[simp] theorem State.dropTxr_hnd (s : State) : s.dropTxr.hnd = s.hnd := rfl
@[simp] theorem State.dropTxr_ops (s : State) : s.dropTxr.ops = s.ops := rfl
@[simp] theorem State.dropTxr_aside (s : State) : s.dropTxr.aside = s.aside := rfl
@[simp] theorem State.dropTxr_replies (s : State) : s.dropTxr.replies = s.replies := rfl
@[simp] theorem State.dropTxr_calls (s : State) : s.dropTxr.calls = s.calls := rfl
@[simp] theorem State.dropTxr_env (s : State) : s.dropTxr.env = s.env := rfl
@[simp] theorem State.dropTxr_free (s : State) : s.dropTxr.free = s.free + 1 := rfl

/-! ## askOpen -/

@[simp] theorem State.askOpen_par (s : State) : s.askOpen.par = s.par := rfl
@[simp] theorem State.askOpen_rxbuf (s : State) : s.askOpen.rxbuf = s.rxbuf := rfl
@[simp] theorem State.askOpen_fr (s : State) : s.askOpen.fr = s.fr := rfl
@[simp] theorem State.askOpen_txr (s : State) : s.askOpen.txr = s.txr := rfl
@[simp] theorem State.askOpen_pend (s : State) : s.askOpen.pend = s.pend := rfl
@[simp] theorem State.askOpen_timeoutCfg (s : State) : s.askOpen.timeoutCfg = s.timeoutCfg := rfl
@[simp] theorem State.askOpen_seq (s : State) : s.askOpen.seq = s.seq := rfl
@[simp] theorem State.askOpen_thnd (s : State) : s.askOpen.thnd = s.thnd := rfl
@[simp] theorem State.askOpen_ser (s : State) : s.askOpen.ser = s.ser := rfl
@[simp] theorem State.askOpen_pos (s : State) : s.askOpen.pos = s.pos := rfl
@[simp] theorem State.askOpen_hnd (s : State) : s.askOpen.hnd = s.hnd := rfl
@[simp] theorem State.askOpen_ops (s : State) : s.askOpen.ops = s.ops := rfl
@[simp] theorem State.askOpen_aside (s : State) : s.askOpen.aside = s.aside := rfl
@[simp] theorem State.askOpen_replies (s : State) : s.askOpen.replies = s.replies := rfl
@[simp] theorem State.askOpen_calls (s : State) : s.askOpen.calls = .isOpen :: s.calls := rfl
@[simp] theorem State.askOpen_env (s : State) : s.askOpen.env = { s.env with opens := s.env.opens.tail } := rfl
@[simp] theorem State.askOpen_free (s : State) : s.askOpen.free = s.free := rfl

/-! ## callWrite -/

@[simp] theorem State.callWrite_par (f : Bytes) (s : State) : (s.callWrite f).par = s.par := rfl
@[simp] theorem State.callWrite_rxbuf (f : Bytes) (s : State) : (s.callWrite f).rxbuf = s.rxbuf := rfl
@[simp] theorem State.callWrite_fr (f : Bytes) (s : State) : (s.callWrite f).fr = s.fr := rfl
@[simp] theorem State.callWrite_txr (f : Bytes) (s : State) : (s.callWrite f).txr = s.txr := rfl
@[simp] theorem State.callWrite_pend (f : Bytes) (s : State) : (s.callWrite f).pend = s.pend := rfl
@[simp] theorem State.callWrite_timeoutCfg (f : Bytes) (s : State) : (s.callWrite f).timeoutCfg = s.timeoutCfg := rfl
@[simp] theorem State.callWrite_seq (f : Bytes) (s : State) : (s.callWrite f).seq = s.seq := rfl
@[simp] theorem State.callWrite_thnd (f : Bytes) (s : State) : (s.callWrite f).thnd = s.thnd := rfl
@[simp] theorem State.callWrite_ser (f : Bytes) (s : State) : (s.callWrite f).ser = s.ser := rfl
@[simp] theorem State.callWrite_pos (f : Bytes) (s : State) : (s.callWrite f).pos = s.pos := rfl
@[simp] theorem State.callWrite_hnd (f : Bytes) (s : State) : (s.callWrite f).hnd = s.hnd := rfl
@[simp] theorem State.callWrite_ops (f : Bytes) (s : State) : (s.callWrite f).ops = s.ops := rfl
@[simp] theorem State.callWrite_aside (f : Bytes) (s : State) : (s.callWrite f).aside = s.aside := rfl
@[simp] theorem State.callWrite_replies (f : Bytes) (s : State) : (s.callWrite f).replies = s.replies := rfl
@[simp] theorem State.callWrite_calls (f : Bytes) (s : State) : (s.callWrite f).calls = .write f :: s.calls := rfl
@[simp] theorem State.callWrite_env (f : Bytes) (s : State) : (s.callWrite f).env = { s.env with writes := s.env.writes.tail } := rfl
@[simp] theorem State.callWrite_free (f : Bytes) (s : State) : (s.callWrite f).free = s.free := rfl

/-! ## callRead -/

@[simp] theorem State.callRead_par (s : State) : s.callRead.par = s.par := rfl
@[simp] theorem State.callRead_rxbuf (s : State) : s.callRead.rxbuf = s.rxbuf := rfl
@[simp] theorem State.callRead_fr (s : State) : s.callRead.fr = s.fr := rfl
@[simp] theorem State.callRead_txr (s : State) : s.callRead.txr = s.txr := rfl
@[simp] theorem State.callRead_pend (s : State) : s.callRead.pend = s.pend := rfl
@[simp] theorem State.callRead_timeoutCfg (s : State) : s.callRead.timeoutCfg = s.timeoutCfg := rfl
@[simp] theorem State.callRead_seq (s : State) : s.callRead.seq = s.seq := rfl
@[simp] theorem State.callRead_thnd (s : State) : s.callRead.thnd = s.thnd := rfl
@[simp] theorem State.callRead_ser (s : State) : s.callRead.ser = s.ser := rfl
@[simp] theorem State.callRead_pos (s : State) : s.callRead.pos = s.pos := rfl
@[simp] theorem State.callRead_hnd (s : State) : s.callRead.hnd = s.hnd := rfl
@[simp] theorem State.callRead_ops (s : State) : s.callRead.ops = s.ops := rfl
@[simp] theorem State.callRead_aside (s : State) : s.callRead.aside = s.aside := rfl
@[simp] theorem State.callRead_replies (s : State) : s.callRead.replies = s.replies := rfl
@[simp] theorem State.callRead_calls (s : State) : s.callRead.calls = .read s.par.readMax :: s.calls := rfl
@[simp] theorem State.callRead_env (s : State) : s.callRead.env = { s.env with reads := readsLeft s.par.readMax s.env.reads } := rfl
@[simp] theorem State.callRead_free (s : State) : s.callRead.free = s.free := rfl

/-! ## sampleDeadline -/

@[simp] theorem State.sampleDeadline_par (s : State) : s.sampleDeadline.par = s.par := rfl
@[simp] theorem State.sampleDeadline_rxbuf (s : State) : s.sampleDeadline.rxbuf = s.rxbuf := rfl
@[simp] theorem State.sampleDeadline_fr (s : State) : s.sampleDeadline.fr = s.fr := rfl
@[simp] theorem State.sampleDeadline_txr (s : State) : s.sampleDeadline.txr = s.txr := rfl
@[simp] theorem State.sampleDeadline_pend (s : State) : s.sampleDeadline.pend = s.pend := rfl
@[simp] theorem State.sampleDeadline_timeoutCfg (s : State) : s.sampleDeadline.timeoutCfg = s.timeoutCfg := rfl
@[simp] theorem State.sampleDeadline_seq (s : State) : s.sampleDeadline.seq = s.seq := rfl
@[simp] theorem State.sampleDeadline_thnd (s : State) : s.sampleDeadline.thnd = s.thnd := rfl
@[simp] theorem State.sampleDeadline_ser (s : State) : s.sampleDeadline.ser = s.ser := rfl
@[simp] theorem State.sampleDeadline_pos (s : State) : s.sampleDeadline.pos = s.pos := rfl
@[simp] theorem State.sampleDeadline_hnd (s : State) : s.sampleDeadline.hnd = s.hnd := rfl
@[simp] theorem State.sampleDeadline_ops (s : State) : s.sampleDeadline.ops = s.ops := rfl
@[simp] theorem State.sampleDeadline_aside (s : State) : s.sampleDeadline.aside = s.aside := rfl
@[simp] theorem State.sampleDeadline_replies (s : State) : s.sampleDeadline.replies = s.replies := rfl
@[simp] theorem State.sampleDeadline_calls (s : State) : s.sampleDeadline.calls = s.calls := rfl
@[simp] theorem State.sampleDeadline_env (s : State) : s.sampleDeadline.env = { s.env with deadlines := s.env.deadlines.tail } := rfl
@[simp] theorem State.sampleDeadline_free (s : State) : s.sampleDeadline.free = s.free := rfl

/-! ## takeTurn -/

@[simp] theorem State.takeTurn_par (s : State) : s.takeTurn.par = s.par := rfl
@[simp] theorem State.takeTurn_rxbuf (s : State) : s.takeTurn.rxbuf = s.rxbuf := rfl
@[simp] theorem State.takeTurn_fr (s : State) : s.takeTurn.fr = s.fr := rfl
@[simp] theorem State.takeTurn_txr (s : State) : s.takeTurn.txr = s.txr := rfl
@[simp] theorem State.takeTurn_pend (s : State) : s.takeTurn.pend = s.pend := rfl
@[simp] theorem State.takeTurn_timeoutCfg (s : State) : s.takeTurn.timeoutCfg = s.timeoutCfg := rfl
@[simp] theorem State.takeTurn_seq (s : State) : s.takeTurn.seq = s.seq := rfl
@[simp] theorem State.takeTurn_thnd (s : State) : s.takeTurn.thnd = s.thnd := rfl
@[simp] theorem State.takeTurn_ser (s : State) : s.takeTurn.ser = s.ser := rfl
@[simp] theorem State.takeTurn_pos (s : State) : s.takeTurn.pos = s.pos := rfl
@[simp] theorem State.takeTurn_hnd (s : State) : s.takeTurn.hnd = s.hnd := rfl
@[simp] theorem State.takeTurn_ops (s : State) : s.takeTurn.ops = s.ops := rfl
@[simp] theorem State.takeTurn_replies (s : State) : s.takeTurn.replies = s.replies := rfl
@[simp] theorem State.takeTurn_calls (s : State) : s.takeTurn.calls = s.calls := rfl
@[simp] theorem State.takeTurn_env (s : State) : s.takeTurn.env = s.env := rfl
@[simp] theorem State.takeTurn_free (s : State) : s.takeTurn.free = s.free := rfl
@[simp] theorem State.takeTurn_aside (s : State) : s.takeTurn.aside = s.aside.tail := rfl

/-! ## flush -/

@[simp] theorem State.flush_par (s : State) : s.flush.par = s.par := by unfold State.flush; split <;> simp_all
@[simp] theorem State.flush_rxbuf (s : State) : s.flush.rxbuf = if s.par.flushOnRequest then [] else s.rxbuf := by unfold State.flush; split <;> simp_all
@[simp] theorem State.flush_fr (s : State) : s.flush.fr = s.fr := by unfold State.flush; split <;> simp_all
@[simp] theorem State.flush_txr (s : State) : s.flush.txr = s.txr := by unfold State.flush; split <;> simp_all
@[simp] theorem State.flush_pend (s : State) : s.flush.pend = s.pend := by unfold State.flush; split <;> simp_all
@[simp] theorem State.flush_timeoutCfg (s : State) : s.flush.timeoutCfg = s.timeoutCfg := by unfold State.flush; split <;> simp_all
@[simp] theorem State.flush_seq (s : State) : s.flush.seq = s.seq := by unfold State.flush; split <;> simp_all
@[simp] theorem State.flush_thnd (s : State) : s.flush.thnd = s.thnd := by unfold State.flush; split <;> simp_all
@[simp] theorem State.flush_ser (s : State) : s.flush.ser = s.ser := by unfold State.flush; split <;> simp_all
@[simp] theorem State.flush_pos (s : State) : s.flush.pos = s.pos := by unfold State.flush; split <;> simp_all
@[simp] theorem State.flush_hnd (s : State) : s.flush.hnd = s.hnd := by unfold State.flush; split <;> simp_all
@[simp] theorem State.flush_ops (s : State) : s.flush.ops = s.ops := by unfold State.flush; split <;> simp_all
@[simp] theorem State.flush_aside (s : State) : s.flush.aside = s.aside := by unfold State.flush; split <;> simp_all
@[simp] theorem State.flush_replies (s : State) : s.flush.replies = s.replies := by unfold State.flush; split <;> simp_all
@[simp] theorem State.flush_calls (s : State) : s.flush.calls = s.calls := by unfold State.flush; split <;> simp_all
@[simp] theorem State.flush_env (s : State) : s.flush.env = s.env := by unfold State.flush; split <;> simp_all
@[simp] theorem State.flush_free (s : State) : s.flush.free = s.free := by unfold State.flush; split <;> simp_all

/-! ## loadFr -/

@[simp] theorem State.loadFr_par (r : ParseResult) (s : State) : (s.loadFr r).par = s.par := by unfold State.loadFr; split <;> rfl
@[simp] theorem State.loadFr_rxbuf (r : ParseResult) (s : State) : (s.loadFr r).rxbuf = s.rxbuf := by unfold State.loadFr; split <;> rfl
@[simp] theorem State.loadFr_txr (r : ParseResult) (s : State) : (s.loadFr r).txr = s.txr := by unfold State.loadFr; split <;> rfl
@[simp] theorem State.loadFr_pend (r : ParseResult) (s : State) : (s.loadFr r).pend = s.pend := by unfold State.loadFr; split <;> rfl
@[simp] theorem State.loadFr_timeoutCfg (r : ParseResult) (s : State) : (s.loadFr r).timeoutCfg = s.timeoutCfg := by unfold State.loadFr; split <;> rfl
@[simp] theorem State.loadFr_seq (r : ParseResult) (s : State) : (s.loadFr r).seq = s.seq := by unfold State.loadFr; split <;> rfl
@[simp] theorem State.loadFr_thnd (r : ParseResult) (s : State) : (s.loadFr r).thnd = s.thnd := by unfold State.loadFr; split <;> rfl
@[simp] theorem State.loadFr_ser (r : ParseResult) (s : State) : (s.loadFr r).ser = s.ser := by unfold State.loadFr; split <;> rfl
@[simp] theorem State.loadFr_pos (r : ParseResult) (s : State) : (s.loadFr r).pos = s.pos := by unfold State.loadFr; split <;> rfl
@[simp] theorem State.loadFr_hnd (r : ParseResult) (s : State) : (s.loadFr r).hnd = s.hnd := by unfold State.loadFr; split <;> rfl
@[simp] theorem State.loadFr_ops (r : ParseResult) (s : State) : (s.loadFr r).ops = s.ops := by unfold State.loadFr; split <;> rfl
@[simp] theorem State.loadFr_aside (r : ParseResult) (s : State) : (s.loadFr r).aside = s.aside := by unfold State.loadFr; split <;> rfl
@[simp] theorem State.loadFr_replies (r : ParseResult) (s : State) : (s.loadFr r).replies = s.replies := by unfold State.loadFr; split <;> rfl
@[simp] theorem State.loadFr_calls (r : ParseResult) (s : State) : (s.loadFr r).calls = s.calls := by unfold State.loadFr; split <;> rfl
@[simp] theorem State.loadFr_env (r : ParseResult) (s : State) : (s.loadFr r).env = s.env := by unfold State.loadFr; split <;> rfl

/-! ## parseStep -/

@[simp] theorem State.parseStep_par (s : State) : s.parseStep.par = s.par := by unfold State.parseStep; simp
@[simp] theorem State.parseStep_rxbuf (s : State) : s.parseStep.rxbuf = s.rxbuf.drop (tryParse s.rxbuf).consumed := rfl
@[simp] theorem State.parseStep_txr (s : State) : s.parseStep.txr = s.txr := by unfold State.parseStep; simp
@[simp] theorem State.parseStep_pend (s : State) : s.parseStep.pend = s.pend := by unfold State.parseStep; simp
@[simp] theorem State.parseStep_timeoutCfg (s : State) : s.parseStep.timeoutCfg = s.timeoutCfg := by unfold State.parseStep; simp
@[simp] theorem State.parseStep_seq (s : State) : s.parseStep.seq = s.seq := by unfold State.parseStep; simp
@[simp] theorem State.parseStep_thnd (s : State) : s.parseStep.thnd = s.thnd := by unfold State.parseStep; simp
@[simp] theorem State.parseStep_ser (s : State) : s.parseStep.ser = s.ser := by unfold State.parseStep; simp
@[simp] theorem State.parseStep_pos (s : State) : s.parseStep.pos = s.pos := by unfold State.parseStep; simp
@[simp] theorem State.parseStep_hnd (s : State) : s.parseStep.hnd = s.hnd := by unfold State.parseStep; simp
@[simp] theorem State.parseStep_ops (s : State) : s.parseStep.ops = s.ops := by unfold State.parseStep; simp
@[simp] theorem State.parseStep_aside (s : State) : s.parseStep.aside = s.aside := by unfold State.parseStep; simp
@[simp] theorem State.parseStep_replies (s : State) : s.parseStep.replies = s.replies := by unfold State.parseStep; simp
@[simp] theorem State.parseStep_calls (s : State) : s.parseStep.calls = s.calls := by unfold State.parseStep; simp
@[simp] theorem State.parseStep_env (s : State) : s.parseStep.env = s.env := by unfold State.parseStep; simp

/-- What a parse that delivered a frame writes to `FR`. -/
@[simp] theorem State.loadFr_some (f : Frame) (n : Nat) (oc : ParseOutcome) (s : State) :
    s.loadFr ⟨some f, n, oc⟩ = { s with fr := ⟨true, f⟩ } := rfl

/-- A parse that delivered no frame leaves `FR` invalid. -/
@[simp] theorem State.loadFr_none (n : Nat) (oc : ParseOutcome) (s : State) :
    s.loadFr ⟨none, n, oc⟩ = { s with fr := ⟨false, Config.freeFrame s.free⟩, free := s.free + 1 } := rfl

/-- `finish` is the statements' `ended`. -/
theorem State.finish_eq_ended (r : Reply) (s : State) : s.finish r = s.ended r := rfl

end Sys2Proof.Machine
end

