-- ==== Sys2Proof/Laws/Ops.lean ====
section
/-! SUPPORT. One lemma per shared operation that says once everything it can do; proofs cite these instead of unfolding. -/

namespace Sys2Proof.Machine

/-! ## TRY_PARSE -/

/-- Everything TRY_PARSE can answer (R133), by its outcome. -/
theorem tryParse_cases (b : Bytes) :
    (findHeader b = none ∧ tryParse b = ⟨none, noHeaderConsumed b, .noHeader⟩) ∨
    (∃ h, findHeader b = some h ∧ (b.length - h < 5 ∨ b.length - h < 6 + (byteAt b (h + 4)).toNat) ∧
      tryParse b = ⟨none, 0, .incomplete⟩) ∨
    (∃ h, findHeader b = some h ∧ 6 + (byteAt b (h + 4)).toNat ≤ b.length - h ∧
      sum8 (slice b h (h + (6 + (byteAt b (h + 4)).toNat) - 1)) =
        byteAt b (h + (6 + (byteAt b (h + 4)).toNat) - 1) ∧
      tryParse b = ⟨some (candidate b h), h + (6 + (byteAt b (h + 4)).toNat), .frameOk⟩) ∨
    (∃ h, findHeader b = some h ∧ 6 + (byteAt b (h + 4)).toNat ≤ b.length - h ∧
      sum8 (slice b h (h + (6 + (byteAt b (h + 4)).toNat) - 1)) ≠
        byteAt b (h + (6 + (byteAt b (h + 4)).toNat) - 1) ∧
      tryParse b = ⟨none, h + (6 + (byteAt b (h + 4)).toNat), .sumError⟩) := by
  unfold tryParse
  cases hh : findHeader b with
  | none => exact .inl ⟨rfl, rfl⟩
  | some h =>
    by_cases h5 : b.length - h < 5
    · exact .inr (.inl ⟨h, rfl, .inl h5, by simp [h5]⟩)
    by_cases ht : b.length - h < 6 + (byteAt b (h + 4)).toNat
    · exact .inr (.inl ⟨h, rfl, .inr ht, by simp [h5, ht]⟩)
    by_cases hs : sum8 (slice b h (h + (6 + (byteAt b (h + 4)).toNat) - 1)) =
        byteAt b (h + (6 + (byteAt b (h + 4)).toNat) - 1)
    · exact .inr (.inr (.inl ⟨h, rfl, by omega, hs, by simp [h5, ht, hs]⟩))
    · exact .inr (.inr (.inr ⟨h, rfl, by omega, hs, by simp [h5, ht, hs]⟩))

/-- A frame comes with the outcome `FrameOk` and only with it. -/
theorem tryParse_frame_outcome (b : Bytes) :
    ((tryParse b).frame.isSome = true ↔ (tryParse b).outcome = .frameOk) := by
  obtain ⟨-, h⟩ | ⟨_, -, -, h⟩ | ⟨_, -, -, -, h⟩ | ⟨_, -, -, -, h⟩ := tryParse_cases b <;> simp [h]

/-- `consumed` never passes the end of the buffer. -/
theorem noHeaderConsumed_le (b : Bytes) : noHeaderConsumed b ≤ b.length := by
  unfold noHeaderConsumed; split <;> omega

/-! ## The receive buffer (R22, R130, R140, R296) -/

/-- RX_PUSH appends, or refuses what does not fit. -/
theorem rxPush_eq_some {chunk : Bytes} {s t : State} (h : s.rxPush chunk = some t) :
    Memory.wf s.par (s.rxbuf ++ chunk) = true ∧ t = { s with rxbuf := s.rxbuf ++ chunk } := by
  unfold State.rxPush at h
  split at h
  · exact ⟨‹_›, by simpa using h.symm⟩
  · cases h

/-- RX_PUSH refuses exactly what does not fit. -/
theorem rxPush_eq_none {chunk : Bytes} {s : State} :
    s.rxPush chunk = none ↔ Memory.wf s.par (s.rxbuf ++ chunk) = false := by
  unfold State.rxPush
  split <;> simp_all

/-- With no capacity, RX_PUSH never fails. -/
theorem rxPush_of_cap_none {s : State} (h : s.par.rxbufCap = none) (chunk : Bytes) :
    s.rxPush chunk = some { s with rxbuf := s.rxbuf ++ chunk } := by
  simp [State.rxPush, Memory.wf, h]

/-- A shorter buffer fits where a longer one does. -/
theorem memory_wf_of_length_le {par : Params} {a b : Bytes} (h : a.length ≤ b.length) (hb : Memory.wf par b = true) :
    Memory.wf par a = true := by
  unfold Memory.wf at *
  split <;> simp_all; omega

/-- The empty buffer fits every capacity. -/
@[simp] theorem memory_wf_nil (par : Params) : Memory.wf par [] = true := by
  unfold Memory.wf; split <;> simp

/-- RX_PUSH keeps the buffer's form. -/
theorem rxPush_keeps_wf {chunk : Bytes} {s t : State} (h : s.rxPush chunk = some t) : Memory.wf t.par t.rxbuf = true := by
  obtain ⟨hw, rfl⟩ := rxPush_eq_some h
  exact hw

/-- PARSE_STEP keeps the buffer's form. -/
theorem parseStep_keeps_wf {s : State} (h : Memory.wf s.par s.rxbuf = true) :
    Memory.wf s.parseStep.par s.parseStep.rxbuf = true := by
  simp only [State.parseStep_par, State.parseStep_rxbuf]
  exact memory_wf_of_length_le (by simp) h

/-- The flush keeps the buffer's form. -/
theorem flush_keeps_wf {s : State} (h : Memory.wf s.par s.rxbuf = true) : Memory.wf s.flush.par s.flush.rxbuf = true := by
  simp only [State.flush_par, State.flush_rxbuf]
  split <;> simp [h]

/-- The buffer at reset has its form. -/
theorem reset_memory_wf : Memory.wf State.reset.par State.reset.rxbuf = true := memory_wf_nil _

/-- DRAIN keeps the buffer's form and the parameters. -/
theorem drainFuel_keeps_wf (n : Nat) (s : State) (h : Memory.wf s.par s.rxbuf = true) :
    Memory.wf (drainFuel n s).2.par (drainFuel n s).2.rxbuf = true := by
  induction n generalizing s with
  | zero => exact h
  | succ n ih =>
    simp only [drainFuel]
    split <;> first | exact ih _ (parseStep_keeps_wf h) | exact parseStep_keeps_wf h

/-- DRAIN keeps the parameters. -/
theorem drainFuel_par (n : Nat) (s : State) : (drainFuel n s).2.par = s.par := by
  induction n generalizing s with
  | zero => rfl
  | succ n ih =>
    simp only [drainFuel]
    split <;> simp [ih]

/-- DRAIN keeps the parameters. -/
@[simp] theorem drain_par (s : State) : s.drain.2.par = s.par := drainFuel_par _ _

/-- RX_PUSH appends what fits the capacity, where there is one. -/
theorem rxPush_of_fits {s : State} {chunk : Bytes}
    (h : ∀ cap, s.par.rxbufCap = some cap → s.rxbuf.length + chunk.length ≤ cap) :
    s.rxPush chunk = some { s with rxbuf := s.rxbuf ++ chunk } := by
  unfold State.rxPush Memory.wf
  cases hc : s.par.rxbufCap <;> simp_all

/-- Without a capacity every push fits. -/
theorem pushesFit_of_cap_none {s : State} (h : s.par.rxbufCap = none) (chunks : List Bytes) : PushesFit s chunks := by
  induction chunks generalizing s with
  | nil => trivial
  | cons c cs ih => exact ⟨fun _ hc => by simp [h] at hc, ih (by simpa using h)⟩

/-- With a capacity a chunk fits when its length does, and the rest when it fits the drained buffer. -/
theorem pushesFit_cons {s : State} {c : Bytes} {cs : List Bytes} {cap : Nat} (h : s.par.rxbufCap = some cap) :
    PushesFit s (c :: cs) ↔
      s.rxbuf.length + c.length ≤ cap ∧ PushesFit ({ s with rxbuf := s.rxbuf ++ c } : State).drain.2 cs := by
  simp [PushesFit, h]

/-! ## Framing errors (R321, R322) -/

/-- When each framing error is met. -/
theorem mem_framingErrors (d : Bool) (b : Bytes) (e : FramingError) :
    e ∈ framingErrors d b ↔
      (e = .badHeader ∧ 0 < skippedBytes b) ∨ (e = .badChecksum ∧ (tryParse b).outcome = .sumError) ∨
      (e = .truncated ∧ d = true ∧ (tryParse b).outcome = .incomplete) := by
  unfold framingErrors
  cases (tryParse b).outcome <;> cases d <;> cases e <;> by_cases h : 0 < skippedBytes b <;> simp [h]

/-! ## Pure functions and whose turn a step is (R58, R351) -/

/-- Everything a pure function can do: return a result, or be outside the domain of CFG_ENCODE. -/
theorem runPure_cases (op : PureOp) (s : State) :
    (∃ r, runPure op s = .next (s.replied r)) ∨
    (∃ c, op = .cfgEncode c ∧ cfgWellFormed s.par c = false ∧ runPure op s = .refused .illFormedConfig) := by
  cases op with
  | encode a c p => left; simp only [runPure, opEncode]; split <;> exact ⟨_, rfl⟩
  | cfgDecode p => left; simp only [runPure, opCfgDecode]; split <;> exact ⟨_, rfl⟩
  | cfgEncode c =>
    cases h : cfgWellFormed s.par c
    · exact .inr ⟨c, rfl, h, by simp [runPure, opCfgEncode, h]⟩
    · exact .inl ⟨.ok (.bytes (cfgEncode s.par c)), by simp [runPure, opCfgEncode, h, answer, State.reply, State.replied]⟩
  | cfgSet c a => left; simp only [runPure, opCfgSet]; split <;> exact ⟨_, rfl⟩
  | strEncode n b => left; simp only [runPure, opStrEncode]; split <;> exact ⟨_, rfl⟩
  | strDecode p => left; simp only [runPure, opStrDecode]; split <;> exact ⟨_, rfl⟩
  | infoDecode p => left; simp only [runPure, opInfoDecode]; split <;> exact ⟨_, rfl⟩
  | kbPack r => left; simp only [runPure, packed]; split <;> exact ⟨_, rfl⟩
  | msRelPack r => left; simp only [runPure, packed]; split <;> exact ⟨_, rfl⟩
  | msAbsPack r => left; simp only [runPure, packed]; split <;> exact ⟨_, rfl⟩
  | sum8 | validFrame | findHeader | correlate | statusCheck | cfgGet | zpad | zstrip => exact .inl ⟨_, rfl⟩

/-- A step that is FC's own move. -/
theorem step_of_turn {s₀ s : State} (h : s₀.Turn s) : step s₀ = moveStep s := by
  obtain ⟨hw, ha, rfl⟩ := h
  simp only [step, seqStep, hw, ha, if_true]
  rfl

/-- The state of a turn has the parameters of the state before it. -/
theorem turn_par {s₀ s : State} (h : s₀.Turn s) : s.par = s₀.par := by
  obtain ⟨-, -, rfl⟩ := h; rfl

/-- An operation that HOST invokes on an idle engine. -/
theorem step_of_invokes {s₀ s : State} {op : HostOp} (h : s₀.Invokes op s) : step s₀ = runHeld op s ∧ s.par.wf = true := by
  obtain ⟨rest, t, ht, hp, hh, ho, rfl⟩ := h
  refine ⟨?_, by simpa using (turn_par ht) ▸ ht.1⟩
  rw [step_of_turn ht]
  simp [moveStep, hp, idleStep, ho, runOp, hh]

/-- A pure function that HOST calls, between operations or while one is outstanding. -/
theorem step_of_asks {s₀ s : State} {op : PureOp} (h : s₀.Asks op s) : step s₀ = runPure op s := by
  rcases h with h | ⟨hw, hh, ha, rfl⟩
  · exact (step_of_invokes h).1
  · simp only [step, seqStep, hw, ha, if_true]
    simp [runOp, hh, runHeld, State.takeTurn]

/-! ## The two halves of TRANSACT -/

/-- Everything `respond` can do: end the transaction with the reply, or drop the frame. -/
theorem respond_cases {addr cmd : Byte} {r : Reply} {s : State} {a : Answer} (h : respond addr cmd r s = a) :
    (∃ p, s.pend = some p ∧ correlate s.par p addr cmd = true ∧ a = .next (s.finish r)) ∨
    ((∀ p, s.pend = some p → correlate s.par p addr cmd = false) ∧ a = .next s) := by
  unfold respond at h
  split at h
  · rename_i p hp
    split at h
    · exact .inl ⟨p, hp, ‹_›, h.symm⟩
    · refine .inr ⟨?_, h.symm⟩
      intro q hq
      simp_all
  · refine .inr ⟨?_, h.symm⟩
    intro q hq
    simp_all

/-- Everything `whenFree` can do. -/
theorem whenFree_cases (s : State) (k : State → Answer) :
    (s.thnd = .released ∧ whenFree s k = .refused .afterRelease) ∨
    (s.thnd = .held ∧ s.pend.isSome = true ∧ whenFree s k = .refused .overlappingTransaction) ∨
    (s.thnd = .held ∧ s.pend = none ∧ whenFree s k = k s) := by
  unfold whenFree
  cases ht : s.thnd <;> cases hp : s.pend <;> simp

/-- A ready state goes on. -/
theorem whenFree_of_ready {s : State} (h : s.Ready) (k : State → Answer) : whenFree s k = k s := by
  obtain ⟨h1, h2⟩ := h
  simp [whenFree, h1, h2]

/-- Everything S1 to S5 can do. -/
theorem sendRequest_cases (addr cmd : Byte) (payload : Bytes) (h : Handler) (s : State) :
    (encodeFrame addr cmd payload = none ∧
      sendRequest addr cmd payload h s = .next (s.started.finish (encodingReply .payloadTooLong))) ∨
    (encodeFrame addr cmd payload = some (frameBytes addr cmd payload) ∧ s.env.opens.now = false ∧
      sendRequest addr cmd payload h s = .next (s.started.askOpen.finish (transportReply .closed))) ∨
    (encodeFrame addr cmd payload = some (frameBytes addr cmd payload) ∧ s.env.opens.now = true ∧
      sendRequest addr cmd payload h s =
        writeRequest addr cmd h (frameBytes addr cmd payload) s.started.askOpen.flush) := by
  have hs : ({ s with seq := s.seq + 1 } : State).dropTxr = s.started := rfl
  have ho : s.started.env.opens.now = s.env.opens.now := rfl
  unfold sendRequest
  rw [hs]
  cases he : encodeFrame addr cmd payload with
  | none => exact .inl ⟨rfl, rfl⟩
  | some frame =>
    have hf : frame = frameBytes addr cmd payload := by
      unfold encodeFrame at he
      split at he
      · cases he
      · simpa using he.symm
    subst hf
    cases hq : s.env.opens.now
    · exact .inr (.inl ⟨rfl, rfl, by simp [ho, hq]⟩)
    · exact .inr (.inr ⟨rfl, rfl, by simp [ho, hq]⟩)

/-- Everything S4 and S5 can do. -/
theorem writeRequest_cases (addr cmd : Byte) (h : Handler) (frame : Bytes) (s : State) :
    (s.env.writes.now = .ok ∧
      writeRequest addr cmd h frame s =
        .next { s.callWrite frame with pend := some ⟨addr, cmd⟩, hnd := h, pos := .parse }) ∨
    (∃ e, s.env.writes.now = .fails e ∧
      writeRequest addr cmd h frame s = .next ((s.callWrite frame).finish (transportReply (.writeFailed e)))) ∨
    (s.env.writes.now = .hangs ∧ writeRequest addr cmd h frame s = .fault .writeNeverReturns) := by
  unfold writeRequest
  cases s.env.writes.now <;> simp

/-- S1 to S5 of a well-sized request, with an open transport and an accepted write, leave the state `sent`. -/
theorem transmit_sent {addr cmd : Byte} {payload : Bytes} {h : Handler} {s : State} (hr : s.Ready)
    (hl : payload.length ≤ maxPayload) (ho : s.env.opens.now = true) (hw : s.env.writes.now = .ok) :
    transmit addr cmd payload h s = .next (s.sent addr cmd payload h) := by
  have he : encodeFrame addr cmd payload = some (frameBytes addr cmd payload) := by
    simp [encodeFrame, Nat.not_lt.mpr hl]
  unfold transmit
  rw [whenFree_of_ready hr]
  obtain ⟨h1, -⟩ | ⟨-, h1, -⟩ | ⟨-, -, h1⟩ := sendRequest_cases addr cmd payload h s
  · simp [he] at h1
  · simp [ho] at h1
  · rw [h1]
    have hw' : s.started.askOpen.flush.env.writes.now = .ok := by simpa [State.started] using hw
    unfold writeRequest
    rw [hw']
    simp only [State.sent, State.callWrite, State.started, State.askOpen, State.flush]
    split <;> simp_all

end Sys2Proof.Machine
end

