-- ==== Sys2Proof/Laws/PerInstr.lean ====
section
/-! SUPPORT. The family DecodesBack: for every instruction, the ADDR, CMD and DATA of its frame look up that instruction
(R91 to R93), one lemma per constructor. -/

namespace Sys2Proof.Laws

open Sys2Proof.Machine

/-- R12: two commands with one request code are one command. -/
theorem code_inj {par : Params} (h : par.codesOk = true) {a b : Command} (hab : par.code a = par.code b) : a = b := by
  have ha : a ∈ allCommands := by cases a <;> decide
  have hb : b ∈ allCommands := by cases b <;> decide
  simp only [Params.codesOk, Bool.and_eq_true, List.all_eq_true] at h
  simpa [hab] using h.2 a ha b hb

/-- R12: bit 7 of a request code is clear. -/
theorem code_msb {par : Params} (h : par.codesOk = true) (a : Command) : (par.code a).msb = false := by
  have ha : a ∈ allCommands := by cases a <;> decide
  simp only [Params.codesOk, Bool.and_eq_true, List.all_eq_true] at h
  simpa using h.1 a ha

/-- R92: bit 7 of a response code is set. -/
theorem respCode_msb (c : Byte) : (respCode c).msb = true := by
  revert c; decide +kernel

/-- R92: two request codes with one response code are equal. -/
theorem respCode_inj {c d : Byte} (hc : c.msb = false) (hd : d.msb = false) (h : respCode c = respCode d) : c = d := by
  revert c d; decide +kernel

/-- R91: a request code looks up its command. -/
theorem requestOf_code {par : Params} (h : par.codesOk = true) (k : Command) : requestOf par (par.code k) = some k := by
  have hk : k ∈ allCommands := by cases k <;> decide
  unfold requestOf
  cases hf : allCommands.find? (fun c => par.code c == par.code k) with
  | none => simpa using List.find?_eq_none.mp hf k hk
  | some c => exact congrArg some (code_inj h (by simpa using List.find?_some hf))

/-- R92: a response code is no request code. -/
theorem requestOf_respCode {par : Params} (h : par.codesOk = true) (c : Byte) : requestOf par (respCode c) = none := by
  refine List.find?_eq_none.mpr fun k _ hk => ?_
  have h1 := code_msb h k
  rw [show par.code k = respCode c by simpa using hk, respCode_msb] at h1
  cases h1

/-- R92: a response code looks up its command. -/
theorem responseOf_code {par : Params} (h : par.codesOk = true) (k : Command) :
    responseOf par (respCode (par.code k)) = some k := by
  have hk : k ∈ allCommands := by cases k <;> decide
  unfold responseOf
  cases hf : allCommands.find? (fun c => respCode (par.code c) == respCode (par.code k)) with
  | none => simpa using List.find?_eq_none.mp hf k hk
  | some c =>
    exact congrArg some (code_inj h (respCode_inj (code_msb h c) (code_msb h k) (by simpa using List.find?_some hf)))

/-- The request row of a command is looked up by its request code. -/
theorem decodeFields_request {par : Params} (h : par.codesOk = true) (k : Command) (addr : Byte) (data : Bytes) :
    decodeFields par addr (par.code k) data = requestInstr k addr data := by
  simp [decodeFields, requestOf_code h]

/-- The response row of a command is looked up by its response code. -/
theorem decodeFields_response {par : Params} (h : par.codesOk = true) (k : Command) (addr : Byte) (data : Bytes) :
    decodeFields par addr (respCode (par.code k)) data = responseInstr par k addr data := by
  simp [decodeFields, requestOf_respCode h, responseOf_code h]

namespace DecodesBack

/-- R93: the fields of the instruction's frame look up the instruction. -/
def Statement (i : Instr) : Prop :=
  ∀ par : Params, par.codesOk = true → i.wellFormed par = true →
    decodeFields par i.addr (instrCmd par i) i.data = some i

theorem reqGetInfo (addr : Byte) : Statement (.reqGetInfo addr) := fun _ h hw =>
  (decodeFields_request h .getInfo addr []).trans (by simp_all [requestInstr, Instr.wellFormed])

theorem rspGetInfo (addr : Byte) (data : Bytes) : Statement (.rspGetInfo addr data) := fun _ h hw =>
  (decodeFields_response h .getInfo addr data).trans (by simp_all [responseInstr, Instr.wellFormed])

theorem reqSendKbGeneral (addr : Byte) (data : Bytes) : Statement (.reqSendKbGeneral addr data) := fun _ h hw =>
  (decodeFields_request h .sendKbGeneral addr data).trans (by simp_all [requestInstr, Instr.wellFormed])

theorem rspSendKbGeneral (addr : Byte) (data : Bytes) : Statement (.rspSendKbGeneral addr data) := fun _ h hw =>
  (decodeFields_response h .sendKbGeneral addr data).trans (by simp_all [responseInstr, Instr.wellFormed])

theorem reqSendMsAbs (addr : Byte) (data : Bytes) : Statement (.reqSendMsAbs addr data) := fun _ h hw =>
  (decodeFields_request h .sendMsAbs addr data).trans (by simp_all [requestInstr, Instr.wellFormed])

theorem rspSendMsAbs (addr : Byte) (data : Bytes) : Statement (.rspSendMsAbs addr data) := fun _ h hw =>
  (decodeFields_response h .sendMsAbs addr data).trans (by simp_all [responseInstr, Instr.wellFormed])

theorem reqSendMsRel (addr : Byte) (data : Bytes) : Statement (.reqSendMsRel addr data) := fun _ h hw =>
  (decodeFields_request h .sendMsRel addr data).trans (by simp_all [requestInstr, Instr.wellFormed])

theorem rspSendMsRel (addr : Byte) (data : Bytes) : Statement (.rspSendMsRel addr data) := fun _ h hw =>
  (decodeFields_response h .sendMsRel addr data).trans (by simp_all [responseInstr, Instr.wellFormed])

theorem reqGetParaCfg (addr : Byte) : Statement (.reqGetParaCfg addr) := fun _ h hw =>
  (decodeFields_request h .getParaCfg addr []).trans (by simp_all [requestInstr, Instr.wellFormed])

theorem rspGetParaCfg (addr : Byte) (data : Bytes) : Statement (.rspGetParaCfg addr data) := fun _ h hw =>
  (decodeFields_response h .getParaCfg addr data).trans (by simp_all [responseInstr, Instr.wellFormed])

theorem reqSetParaCfg (addr : Byte) (data : Bytes) : Statement (.reqSetParaCfg addr data) := fun _ h hw =>
  (decodeFields_request h .setParaCfg addr data).trans (by simp_all [requestInstr, Instr.wellFormed])

theorem rspSetParaCfg (addr : Byte) (data : Bytes) : Statement (.rspSetParaCfg addr data) := fun _ h hw =>
  (decodeFields_response h .setParaCfg addr data).trans (by simp_all [responseInstr, Instr.wellFormed])

theorem reqGetUsbString (addr : Byte) (data : Bytes) : Statement (.reqGetUsbString addr data) := fun _ h hw =>
  (decodeFields_request h .getUsbString addr data).trans (by simp_all [requestInstr, Instr.wellFormed])

theorem rspGetUsbString (addr : Byte) (data : Bytes) : Statement (.rspGetUsbString addr data) := fun _ h hw =>
  (decodeFields_response h .getUsbString addr data).trans (by simp_all [responseInstr, Instr.wellFormed])

theorem reqSetUsbString (addr : Byte) (data : Bytes) : Statement (.reqSetUsbString addr data) := fun _ h hw =>
  (decodeFields_request h .setUsbString addr data).trans (by simp_all [requestInstr, Instr.wellFormed])

theorem rspSetUsbString (addr : Byte) (data : Bytes) : Statement (.rspSetUsbString addr data) := fun _ h hw =>
  (decodeFields_response h .setUsbString addr data).trans (by simp_all [responseInstr, Instr.wellFormed])

theorem reqSetDefaultCfg (addr : Byte) : Statement (.reqSetDefaultCfg addr) := fun _ h hw =>
  (decodeFields_request h .setDefaultCfg addr []).trans (by simp_all [requestInstr, Instr.wellFormed])

theorem rspSetDefaultCfg (addr : Byte) (data : Bytes) : Statement (.rspSetDefaultCfg addr data) := fun _ h hw =>
  (decodeFields_response h .setDefaultCfg addr data).trans (by simp_all [responseInstr, Instr.wellFormed])

theorem reqReset (addr : Byte) : Statement (.reqReset addr) := fun _ h hw =>
  (decodeFields_request h .reset addr []).trans (by simp_all [requestInstr, Instr.wellFormed])

theorem rspReset (addr : Byte) (data : Bytes) : Statement (.rspReset addr data) := fun _ h hw =>
  (decodeFields_response h .reset addr data).trans (by simp_all [responseInstr, Instr.wellFormed])

end DecodesBack

end Sys2Proof.Laws
end

