-- ==== Sys2Proof/Tests/Slice0.lean ====
section
/-! SUPPORT. The model's own tests. Expected bytes and results are those of spec/95_test_vectors.md (the vector's number
stands in the docstring) or of the examples in the rules named; the ill-formed terms are worked out from R12 and R80. -/

-- `decide +kernel` waits for every theorem before it; one after the other needs one thread, not one for each theorem.
set_option Elab.async false

namespace Sys2Proof.Tests

open Sys2Proof.Machine

/-! ## Helpers -/

/-- An idle engine whose next operation is `op`. -/
def invoking (op : HostOp) : State := { State.reset with ops := [op] }

/-- An engine whose request of the command, at ADDR `0x00`, has been written and that is about to parse. -/
def waiting (k : Command) (h : Handler) : State :=
  { State.reset with pend := some ⟨0x00, Params.default.code k⟩, hnd := h, pos := .parse }

/-- The engine with these bytes in `RXBUF`. -/
def holding (b : Bytes) (s : State) : State := { s with rxbuf := b }

/-- What a next state shows under `f`. -/
def seen {α : Type} (f : State → α) : Answer → Option α
  | .next s => some (f s)
  | .fault _ | .refused _ => none

/-- The frames written, `PEND`, and SEQR's position. -/
def sending (s : State) : List TransportCall × Option Pending × SeqPos := (s.calls, s.pend, s.pos)

/-- The results, `PEND`, and SEQR's position. -/
def ending (s : State) : List Reply × Option Pending × SeqPos := (s.replies, s.pend, s.pos)

/-- The DeviceConfig payload of V30. -/
def v30 : Bytes :=
  [0x80, 0x80, 0x00, 0xA1, 0xA2, 0xA3, 0x00, 0x00, 0x25, 0x80, 0x00, 0x03, 0x86, 0x1A, 0x29, 0xE1, 0x00] ++
  [0x00, 0x00, 0x01, 0x00, 0x0D, 0x00, 0x00, 0x00, 0x00, 0x00, 0x00, 0x00, 0x00, 0x00, 0x00, 0x00, 0x00] ++
  [0x00, 0x00, 0x00, 0x85, 0x00, 0xB0, 0xB1, 0xB2, 0xB3, 0xB4, 0xB5, 0xB6, 0xB7, 0xB8, 0xB9, 0xBA]

/-- The record of V30. -/
def v30Record : DeviceConfig :=
  { workMode := 0x80, serialMode := 0x80, chipAddr := 0x00, addrRsvd := [0xA1, 0xA2, 0xA3],
    baud := [0x00, 0x00, 0x25, 0x80], packetInterval := [0x00, 0x03], vid := [0x86, 0x1A], pid := [0x29, 0xE1],
    kbSubmitInterval := [0x00, 0x00], kbReleaseDelay := [0x00, 0x01], autoEnter := 0x00, enterChars := [0x0D],
    filter := [], descEnable := 0x85, fastSubmit := 0x00,
    tailRsvd := [0xB0, 0xB1, 0xB2, 0xB3, 0xB4, 0xB5, 0xB6, 0xB7, 0xB8, 0xB9, 0xBA] }

/-- "My Company" (V34). -/
def company : Bytes := [0x4D, 0x79, 0x20, 0x43, 0x6F, 0x6D, 0x70, 0x61, 0x6E, 0x79]

/-! ## WellFormed: every check refuses an ill-formed term -/

/-- R11, R12: the defaults are a legal instantiation. -/
theorem test_defaults_are_well_formed : Params.default.wf = true := by decide +kernel

/-- R22: a capacity under 261 is refused, 261 is not. -/
theorem test_wf_refuses_small_capacity :
    ({ Params.default with rxbufCap := some 260 } : Params).wf = false ∧
    ({ Params.default with rxbufCap := some 261 } : Params).wf = true := by decide +kernel

/-- R12: request codes have bit 7 clear and are pairwise distinct. -/
theorem test_wf_refuses_bad_codes :
    ({ Params.default with cmdReset := 0x8F } : Params).wf = false ∧
    ({ Params.default with cmdReset := 0x01 } : Params).wf = false := by decide +kernel

/-- R260, R261: the size and the places of DeviceInfo. -/
theorem test_wf_refuses_bad_info :
    ({ Params.default with infoSize := 2 } : Params).wf = false ∧
    ({ Params.default with infoSize := 256 } : Params).wf = false ∧
    ({ Params.default with infoLayout := ⟨10, 1, 2, 0, 1, 2⟩ } : Params).wf = false ∧
    ({ Params.default with infoLayout := ⟨0, 10, 2, 0, 1, 2⟩ } : Params).wf = false ∧
    ({ Params.default with infoLayout := ⟨0, 1, 10, 0, 1, 2⟩ } : Params).wf = false ∧
    ({ Params.default with infoLayout := ⟨0, 1, 2, 8, 1, 2⟩ } : Params).wf = false ∧
    ({ Params.default with infoLayout := ⟨0, 1, 2, 0, 8, 2⟩ } : Params).wf = false ∧
    ({ Params.default with infoLayout := ⟨0, 1, 2, 0, 1, 8⟩ } : Params).wf = false := by decide +kernel

/-- R200: `CFG_SIZE` is 39 to 255. -/
theorem test_wf_refuses_bad_cfg_size :
    ({ Params.default with cfgSize := 38, cfgLayout := defaultCfgLayout 38 } : Params).wf = false ∧
    ({ Params.default with cfgSize := 39, cfgLayout := defaultCfgLayout 39 } : Params).wf = true ∧
    ({ Params.default with cfgSize := 255, cfgLayout := defaultCfgLayout 255 } : Params).wf = true ∧
    ({ Params.default with cfgSize := 256, cfgLayout := defaultCfgLayout 256 } : Params).wf = false := by decide +kernel

/-- R12, R201: a row missing, a row twice, a row of another kind, a one-byte kind two bytes wide, a row past the end, two
rows over one offset, an offset in no row. -/
theorem test_wf_refuses_bad_cfg_layout :
    ({ Params.default with cfgLayout := (defaultCfgLayout 50).tail } : Params).wf = false ∧
    ({ Params.default with cfgLayout := ⟨.workMode, 0, 1, .u8⟩ :: defaultCfgLayout 50 } : Params).wf = false ∧
    ({ Params.default with cfgLayout := ⟨.workMode, 0, 1, .flag⟩ :: (defaultCfgLayout 50).tail } : Params).wf = false ∧
    ({ Params.default with cfgLayout := ⟨.workMode, 0, 2, .u8⟩ :: (defaultCfgLayout 50).tail } : Params).wf = false ∧
    ({ Params.default with cfgLayout := defaultCfgLayout 51 } : Params).wf = false ∧
    ({ Params.default with cfgLayout := ⟨.workMode, 1, 1, .u8⟩ :: (defaultCfgLayout 50).tail } : Params).wf = false ∧
    ({ Params.default with cfgSize := 51 } : Params).wf = false := by decide +kernel

/-- R12: the descriptor bits are three, in 0..7. -/
theorem test_wf_refuses_bad_descriptor_bits :
    ({ Params.default with descEnBits := ⟨2, 2, 0⟩ } : Params).wf = false ∧
    ({ Params.default with descEnBits := ⟨2, 1, 2⟩ } : Params).wf = false ∧
    ({ Params.default with descEnBits := ⟨2, 0, 0⟩ } : Params).wf = false ∧
    ({ Params.default with descEnBits := ⟨8, 1, 0⟩ } : Params).wf = false ∧
    ({ Params.default with descEnBits := ⟨2, 8, 0⟩ } : Params).wf = false ∧
    ({ Params.default with descEnBits := ⟨2, 1, 8⟩ } : Params).wf = false := by decide +kernel

/-- R12, R241, R291: every record fits a payload, and `READ_MAX` is positive. -/
theorem test_wf_refuses_oversized_records :
    ({ Params.default with strMax := 254 } : Params).wf = false ∧
    ({ Params.default with strMax := 253 } : Params).wf = true ∧
    ({ Params.default with kbLayout := List.replicate 256 .modifier } : Params).wf = false ∧
    ({ Params.default with msRelLayout := List.replicate 256 .dx } : Params).wf = false ∧
    ({ Params.default with msAbsLayout := List.replicate 256 .wheel } : Params).wf = false ∧
    ({ Params.default with readMax := 0 } : Params).wf = false := by decide +kernel

/-- R93: the get-info response has `INFO_SIZE` bytes of DATA. -/
theorem test_wf_refuses_info_of_another_size :
    (Instr.rspGetInfo 0x00 (rep 0x00 9)).wellFormed Params.default = false ∧
    (Instr.rspGetInfo 0x00 (rep 0x00 11)).wellFormed Params.default = false ∧
    (Instr.rspGetInfo 0x00 (rep 0x00 10)).wellFormed Params.default = true := by decide +kernel

/-- R80: DATA of more than 255 bytes is no frame's, whatever the row. -/
theorem test_wf_refuses_long_data :
    (∀ i ∈ [Instr.reqSendKbGeneral 0x00, .rspSendKbGeneral 0x00, .reqSendMsAbs 0x00, .rspSendMsAbs 0x00,
        .reqSendMsRel 0x00, .rspSendMsRel 0x00, .rspGetParaCfg 0x00, .reqSetParaCfg 0x00, .rspSetParaCfg 0x00,
        .reqGetUsbString 0x00, .rspGetUsbString 0x00, .reqSetUsbString 0x00, .rspSetUsbString 0x00,
        .rspSetDefaultCfg 0x00, .rspReset 0x00].map (fun f => (f (rep 0x00 255), f (rep 0x00 256))),
      i.1.wellFormed Params.default = true ∧ i.2.wellFormed Params.default = false) ∧
    (∀ i ∈ [Instr.reqGetInfo 0x00, .reqGetParaCfg 0x00, .reqSetDefaultCfg 0x00, .reqReset 0x00],
      i.wellFormed Params.default = true) := by decide +kernel

/-! ## Decoding: one frame of every row, written out in V55 -/

theorem test_decode_reqGetInfo :
    decode Params.default [0x57, 0xAB, 0x00, 0x01, 0x00, 0x03] = .instr (.reqGetInfo 0x00) [] := by decide +kernel

theorem test_decode_rspGetInfo :
    decode Params.default [0x57, 0xAB, 0x00, 0x81, 0x0A, 0x30, 0x01, 0x03, 0x00, 0x00, 0x00, 0x00, 0x00, 0x00,
      0x00, 0xC1] = .instr (.rspGetInfo 0x00 [0x30, 0x01, 0x03, 0x00, 0x00, 0x00, 0x00, 0x00, 0x00,
      0x00]) [] := by decide +kernel

theorem test_decode_reqSendKbGeneral :
    decode Params.default [0x57, 0xAB, 0x00, 0x02, 0x08, 0x02, 0x00, 0x04, 0x00, 0x00, 0x00, 0x00, 0x00, 0x12] =
      .instr (.reqSendKbGeneral 0x00 [0x02, 0x00, 0x04, 0x00, 0x00, 0x00, 0x00, 0x00]) [] := by decide +kernel

theorem test_decode_rspSendKbGeneral :
    decode Params.default [0x57, 0xAB, 0x00, 0x82, 0x01, 0x00, 0x85] =
      .instr (.rspSendKbGeneral 0x00 [0x00]) [] := by decide +kernel

theorem test_decode_reqSendMsAbs :
    decode Params.default [0x57, 0xAB, 0x00, 0x04, 0x07, 0x02, 0x01, 0x64, 0x00, 0xC8, 0x00, 0x00, 0x3C] =
      .instr (.reqSendMsAbs 0x00 [0x02, 0x01, 0x64, 0x00, 0xC8, 0x00, 0x00]) [] := by decide +kernel

theorem test_decode_rspSendMsAbs :
    decode Params.default [0x57, 0xAB, 0x00, 0x84, 0x01, 0x00, 0x87] =
      .instr (.rspSendMsAbs 0x00 [0x00]) [] := by decide +kernel

theorem test_decode_reqSendMsRel :
    decode Params.default [0x57, 0xAB, 0x00, 0x05, 0x05, 0x01, 0x00, 0xFB, 0x0A, 0xFF, 0x11] =
      .instr (.reqSendMsRel 0x00 [0x01, 0x00, 0xFB, 0x0A, 0xFF]) [] := by decide +kernel

theorem test_decode_rspSendMsRel :
    decode Params.default [0x57, 0xAB, 0x00, 0x85, 0x01, 0x00, 0x88] =
      .instr (.rspSendMsRel 0x00 [0x00]) [] := by decide +kernel

theorem test_decode_reqGetParaCfg :
    decode Params.default [0x57, 0xAB, 0x00, 0x08, 0x00, 0x0A] = .instr (.reqGetParaCfg 0x00) [] := by decide +kernel

theorem test_decode_rspGetParaCfg :
    decode Params.default ([0x57, 0xAB, 0x00, 0x88, 0x32] ++ v30 ++ [0x4E]) =
      .instr (.rspGetParaCfg 0x00 v30) [] := by decide +kernel

theorem test_decode_reqSetParaCfg :
    decode Params.default ([0x57, 0xAB, 0x00, 0x09, 0x32] ++ v30 ++ [0xCF]) =
      .instr (.reqSetParaCfg 0x00 v30) [] := by decide +kernel

theorem test_decode_rspSetParaCfg :
    decode Params.default [0x57, 0xAB, 0x00, 0x89, 0x01, 0x00, 0x8C] =
      .instr (.rspSetParaCfg 0x00 [0x00]) [] := by decide +kernel

theorem test_decode_reqGetUsbString :
    decode Params.default [0x57, 0xAB, 0x00, 0x0A, 0x01, 0x00, 0x0D] =
      .instr (.reqGetUsbString 0x00 [0x00]) [] := by decide +kernel

theorem test_decode_rspGetUsbString :
    decode Params.default [0x57, 0xAB, 0x00, 0x8A, 0x0C, 0x00, 0x0A, 0x4D, 0x79, 0x20, 0x43, 0x6F, 0x6D, 0x70,
      0x61, 0x6E, 0x79, 0x5F] = .instr (.rspGetUsbString 0x00 [0x00, 0x0A, 0x4D, 0x79, 0x20, 0x43, 0x6F, 0x6D,
      0x70, 0x61, 0x6E, 0x79]) [] := by decide +kernel

theorem test_decode_reqSetUsbString :
    decode Params.default [0x57, 0xAB, 0x00, 0x0B, 0x0C, 0x00, 0x0A, 0x4D, 0x79, 0x20, 0x43, 0x6F, 0x6D, 0x70,
      0x61, 0x6E, 0x79, 0xE0] = .instr (.reqSetUsbString 0x00 [0x00, 0x0A, 0x4D, 0x79, 0x20, 0x43, 0x6F, 0x6D,
      0x70, 0x61, 0x6E, 0x79]) [] := by decide +kernel

theorem test_decode_rspSetUsbString :
    decode Params.default [0x57, 0xAB, 0x00, 0x8B, 0x01, 0x00, 0x8E] =
      .instr (.rspSetUsbString 0x00 [0x00]) [] := by decide +kernel

theorem test_decode_reqSetDefaultCfg :
    decode Params.default [0x57, 0xAB, 0x00, 0x0C, 0x00, 0x0E] =
      .instr (.reqSetDefaultCfg 0x00) [] := by decide +kernel

theorem test_decode_rspSetDefaultCfg :
    decode Params.default [0x57, 0xAB, 0x00, 0x8C, 0x01, 0x00, 0x8F] =
      .instr (.rspSetDefaultCfg 0x00 [0x00]) [] := by decide +kernel

theorem test_decode_reqReset :
    decode Params.default [0x57, 0xAB, 0x00, 0x0F, 0x00, 0x11] = .instr (.reqReset 0x00) [] := by decide +kernel

theorem test_decode_rspReset :
    decode Params.default [0x57, 0xAB, 0x00, 0x8F, 0x01, 0x00, 0x92] =
      .instr (.rspReset 0x00 [0x00]) [] := by decide +kernel

/-- R97, R93, R133: what is no row is refused by name: a code of no command, a get-info request with DATA, a wrong SUM, a
candidate that is not complete, no header. -/
theorem test_decode_refuses_by_name :
    decode Params.default [0x57, 0xAB, 0x00, 0x03, 0x00, 0x05] = .uninterpreted 0x03 ∧
    decode Params.default [0x57, 0xAB, 0x00, 0x01, 0x01, 0x00, 0x04] = .lenNotOfRow 0x01 0x01 ∧
    decode Params.default [0x57, 0xAB, 0x00, 0x01, 0x00, 0x04] = .badSum ∧
    decode Params.default [0x57, 0xAB, 0x00, 0x01, 0x00] = .incomplete ∧
    decode Params.default [0x57, 0x57] = .noHeader := by decide +kernel

/-- R88: words of spec/opcode_table.json, and a word of no row. -/
theorem test_table_words :
    decodeTableWord 40 0x57AB000100 = some (.reqGetInfo 0x00) ∧
    decodeTableWord 40 0x57ABFF810A = some (.rspGetInfo 0xFF (rep 0x00 10)) ∧
    decodeTableWord 40 0x57AB128200 = some (.rspSendKbGeneral 0x12 []) ∧
    decodeTableWord 40 0x57AB000300 = none := by decide +kernel

/-- A request word is sent as the first instruction after reset, a response word is taken as one. -/
theorem test_first_instruction :
    seen sending (step (State.reset.withFetchWord 40 0x57AB000100)) =
      some ([.write [0x57, 0xAB, 0x00, 0x01, 0x00, 0x03], .isOpen], some ⟨0x00, 0x01⟩, .parse) ∧
    seen ending (step (State.reset.withFetchWord 40 0x57AB008F01)) = some ([.ok .unit], none, .idle) := by decide +kernel

/-! ## One step of each request: the frame of V55 on the wire -/

theorem test_exec_reqGetInfo :
    seen sending (exec (.reqGetInfo 0x00) State.reset) =
      some ([.write [0x57, 0xAB, 0x00, 0x01, 0x00, 0x03], .isOpen], some ⟨0x00, 0x01⟩, .parse) := by decide +kernel

theorem test_exec_reqSendKbGeneral :
    seen sending (exec (.reqSendKbGeneral 0x00 [0x02, 0x00, 0x04, 0x00, 0x00, 0x00, 0x00, 0x00]) State.reset) =
      some ([.write [0x57, 0xAB, 0x00, 0x02, 0x08, 0x02, 0x00, 0x04, 0x00, 0x00, 0x00, 0x00, 0x00, 0x12], .isOpen],
          some ⟨0x00, 0x02⟩, .parse) := by decide +kernel

theorem test_exec_reqSendMsAbs :
    seen sending (exec (.reqSendMsAbs 0x00 [0x02, 0x01, 0x64, 0x00, 0xC8, 0x00, 0x00]) State.reset) =
      some ([.write [0x57, 0xAB, 0x00, 0x04, 0x07, 0x02, 0x01, 0x64, 0x00, 0xC8, 0x00, 0x00, 0x3C], .isOpen],
          some ⟨0x00, 0x04⟩, .parse) := by decide +kernel

theorem test_exec_reqSendMsRel :
    seen sending (exec (.reqSendMsRel 0x00 [0x01, 0x00, 0xFB, 0x0A, 0xFF]) State.reset) =
      some ([.write [0x57, 0xAB, 0x00, 0x05, 0x05, 0x01, 0x00, 0xFB, 0x0A, 0xFF, 0x11], .isOpen], some ⟨0x00,
          0x05⟩, .parse) := by decide +kernel

theorem test_exec_reqGetParaCfg :
    seen sending (exec (.reqGetParaCfg 0x00) State.reset) =
      some ([.write [0x57, 0xAB, 0x00, 0x08, 0x00, 0x0A], .isOpen], some ⟨0x00, 0x08⟩, .parse) := by decide +kernel

theorem test_exec_reqSetParaCfg :
    seen sending (exec (.reqSetParaCfg 0x00 v30) State.reset) =
      some ([.write ([0x57, 0xAB, 0x00, 0x09, 0x32] ++ v30 ++ [0xCF]), .isOpen], some ⟨0x00, 0x09⟩,
          .parse) := by decide +kernel

theorem test_exec_reqGetUsbString :
    seen sending (exec (.reqGetUsbString 0x00 [0x00]) State.reset) =
      some ([.write [0x57, 0xAB, 0x00, 0x0A, 0x01, 0x00, 0x0D], .isOpen], some ⟨0x00, 0x0A⟩,
          .parse) := by decide +kernel

theorem test_exec_reqSetUsbString :
    seen sending (exec (.reqSetUsbString 0x00 [0x00, 0x0A, 0x4D, 0x79, 0x20, 0x43, 0x6F, 0x6D, 0x70, 0x61, 0x6E, 0x79]) State.reset) =
      some ([.write [0x57, 0xAB, 0x00, 0x0B, 0x0C, 0x00, 0x0A, 0x4D, 0x79, 0x20, 0x43, 0x6F, 0x6D, 0x70, 0x61,
          0x6E, 0x79, 0xE0], .isOpen], some ⟨0x00, 0x0B⟩, .parse) := by decide +kernel

theorem test_exec_reqSetDefaultCfg :
    seen sending (exec (.reqSetDefaultCfg 0x00) State.reset) =
      some ([.write [0x57, 0xAB, 0x00, 0x0C, 0x00, 0x0E], .isOpen], some ⟨0x00, 0x0C⟩, .parse) := by decide +kernel

theorem test_exec_reqReset :
    seen sending (exec (.reqReset 0x00) State.reset) =
      some ([.write [0x57, 0xAB, 0x00, 0x0F, 0x00, 0x11], .isOpen], some ⟨0x00, 0x0F⟩, .parse) := by decide +kernel

/-- R243, R336: a bad selector is refused before anything is sent. -/
theorem test_exec_reqGetUsbString_bad_slot :
    seen ending (exec (.reqGetUsbString 0x00 [0x03]) State.reset) = some ([.hard (.encoding .badSlot)], none, .idle) ∧
    seen sending (exec (.reqGetUsbString 0x00 [0x03]) State.reset) = some ([], none, .idle) := by decide +kernel

/-- R242, R337: the selector is checked before the length of the text. -/
theorem test_exec_reqSetUsbString_too_long :
    seen ending (exec (.reqSetUsbString 0x00 ([0x00, 0x18] ++ rep 0x41 24)) State.reset) =
      some ([.hard (.encoding .stringTooLong)], none, .idle) ∧
    seen ending (exec (.reqSetUsbString 0x00 ([0x03, 0x18] ++ rep 0x41 24)) State.reset) =
      some ([.hard (.encoding .badSlot)], none, .idle) := by decide +kernel

/-- R298: a closed transport, a failed write, a write that never returns. -/
theorem test_exec_reqReset_transport :
    seen ending (exec (.reqReset 0x00) { State.reset with env := { envReset with opens := ⟨[], false⟩ } }) =
      some ([.hard (.transport .closed)], none, .idle) ∧
    seen ending (exec (.reqReset 0x00) { State.reset with env := { envReset with writes := ⟨[], .fails 7⟩ } }) =
      some ([.hard (.transport (.writeFailed 7))], none, .idle) ∧
    exec (.reqReset 0x00) { State.reset with env := { envReset with writes := ⟨[], .hangs⟩ } } =
      .fault .writeNeverReturns := ⟨by decide +kernel, by decide +kernel, rfl⟩

/-! ## One step of each response (V55 and the frames below it) -/

/-- R167, R262. -/
theorem test_exec_rspGetInfo :
    seen ending (exec (.rspGetInfo 0x00 [0x30, 0x01, 0x03, 0, 0, 0, 0, 0, 0, 0]) (waiting .getInfo .info)) =
      some ([.ok (.info ⟨0x30, true, true, true, false⟩)], none, .idle) := by decide +kernel

theorem test_exec_rspSendKbGeneral :
    seen ending (exec (.rspSendKbGeneral 0x00 [0x00]) (waiting .sendKbGeneral .status)) = some ([.ok .unit], none, .idle) ∧
    seen ending (exec (.rspSendKbGeneral 0x00 [0xE5]) (waiting .sendKbGeneral .status)) =
      some ([.soft (.deviceRejected (.status 0xE5))], none, .idle) := by decide +kernel

theorem test_exec_rspSendMsAbs :
    seen ending (exec (.rspSendMsAbs 0x00 [0x00]) (waiting .sendMsAbs .status)) = some ([.ok .unit], none, .idle) ∧
    seen ending (exec (.rspSendMsAbs 0x00 [0xE5]) (waiting .sendMsAbs .status)) =
      some ([.soft (.deviceRejected (.status 0xE5))], none, .idle) := by decide +kernel

theorem test_exec_rspSendMsRel :
    seen ending (exec (.rspSendMsRel 0x00 [0x00]) (waiting .sendMsRel .status)) = some ([.ok .unit], none, .idle) ∧
    seen ending (exec (.rspSendMsRel 0x00 [0xE5]) (waiting .sendMsRel .status)) =
      some ([.soft (.deviceRejected (.status 0xE5))], none, .idle) := by decide +kernel

theorem test_exec_rspSetParaCfg :
    seen ending (exec (.rspSetParaCfg 0x00 [0x00]) (waiting .setParaCfg .status)) = some ([.ok .unit], none, .idle) ∧
    seen ending (exec (.rspSetParaCfg 0x00 [0xE5]) (waiting .setParaCfg .status)) =
      some ([.soft (.deviceRejected (.status 0xE5))], none, .idle) := by decide +kernel

theorem test_exec_rspSetUsbString :
    seen ending (exec (.rspSetUsbString 0x00 [0x00]) (waiting .setUsbString .status)) = some ([.ok .unit], none, .idle) ∧
    seen ending (exec (.rspSetUsbString 0x00 [0xE5]) (waiting .setUsbString .status)) =
      some ([.soft (.deviceRejected (.status 0xE5))], none, .idle) := by decide +kernel

theorem test_exec_rspSetDefaultCfg :
    seen ending (exec (.rspSetDefaultCfg 0x00 [0x00]) (waiting .setDefaultCfg .status)) = some ([.ok .unit], none, .idle) ∧
    seen ending (exec (.rspSetDefaultCfg 0x00 [0xE5]) (waiting .setDefaultCfg .status)) =
      some ([.soft (.deviceRejected (.status 0xE5))], none, .idle) := by decide +kernel

theorem test_exec_rspReset :
    seen ending (exec (.rspReset 0x00 [0x00]) (waiting .reset .status)) = some ([.ok .unit], none, .idle) ∧
    seen ending (exec (.rspReset 0x00 [0xE5]) (waiting .reset .status)) =
      some ([.soft (.deviceRejected (.status 0xE5))], none, .idle) := by decide +kernel

/-- R175, V30. -/
theorem test_exec_rspGetParaCfg :
    seen ending (exec (.rspGetParaCfg 0x00 v30) (waiting .getParaCfg .config)) =
      some ([.ok (.config v30Record)], none, .idle) := by decide +kernel

/-- R175: 49 bytes are no DeviceConfig (P4). -/
theorem test_exec_rspGetParaCfg_bad_length :
    seen ending (exec (.rspGetParaCfg 0x00 (v30.take 49)) (waiting .getParaCfg .config)) =
      some ([.soft (.deviceRejected (.decode .badLength))], none, .idle) := by decide +kernel

/-- R179: the record of the slot asked for, and of another. -/
theorem test_exec_rspGetUsbString :
    seen ending (exec (.rspGetUsbString 0x00 ([0x00, 0x0A] ++ company)) (waiting .getUsbString (.usbString 0x00))) =
      some ([.ok (.bytes company)], none, .idle) ∧
    seen ending (exec (.rspGetUsbString 0x00 [0x01, 0x02, 0x41, 0x42]) (waiting .getUsbString (.usbString 0x00))) =
      some ([.soft (.deviceRejected .slotMismatch)], none, .idle) := by decide +kernel

/-- R163, R301: a response to another command is dropped. -/
theorem test_exec_rspReset_uncorrelated :
    seen ending (exec (.rspReset 0x00 [0x00]) (waiting .getInfo .info)) = some ([], some ⟨0x00, 0x01⟩, .parse) := by
  decide +kernel

/-! ## Operations of HOST -/

/-- V1, R111; V10, R115. -/
theorem test_sum8 : sum8 [0x57, 0xAB, 0x00, 0x01, 0x00] = 0x03 ∧ sum8 [] = 0x00 ∧ sum8 (rep 0xFF 256) = 0x00 := by
  decide +kernel

/-- V14, R118: a changed LEN can leave a shorter valid frame. -/
theorem test_changed_len :
    (tryParse [0x57, 0xAB, 0x00, 0x01, 0x00, 0x03, 0x00, 0x08]).consumed = 6 ∧
    (tryParse [0x57, 0xAB, 0x00, 0x01, 0x00, 0x03, 0x00, 0x08]).outcome = .frameOk := by decide +kernel

/-- V30, V31, R206, R207, R222. -/
theorem test_config_round_trip :
    cfgDecode Params.default v30 = some v30Record ∧ cfgEncode Params.default v30Record = v30 ∧
    cfgGet Params.default v30Record (.num .baud) = .nat 9600 ∧
    cfgGet Params.default v30Record (.num .vid) = .nat 0x1A86 := by decide +kernel

/-- R270's example and R274's. -/
theorem test_reports :
    msRelPack Params.default ⟨-5, 10, 0, -1⟩ = some [0x01, 0x00, 0xFB, 0x0A, 0xFF] ∧
    msRelPack Params.default ⟨-129, 0, 0, 0⟩ = none ∧
    msAbsPack Params.default ⟨100, 200, 1, 0⟩ = some [0x02, 0x01, 0x64, 0x00, 0xC8, 0x00, 0x00] ∧
    kbPack Params.default ⟨0x02, [0x04]⟩ = some [0x02, 0x00, 0x04, 0x00, 0x00, 0x00, 0x00, 0x00] := by decide +kernel

/-- R150: the byte-serial machine on a frame after a stray `0x57`. -/
theorem test_serial :
    (serialRun serialReset [0x57, 0x57, 0xAB, 0x00, 0x01, 0x00, 0x03]).2 =
      [.frame ⟨0x57AB, 0x00, 0x01, 0x00, [], 0x03⟩] := by decide +kernel

/-- R321: skipped bytes are BadHeader, an incomplete candidate is Truncated at the deadline only, an empty buffer and a
kept `0x57` skip nothing. -/
theorem test_framing_errors :
    framingErrors true [] = [] ∧ framingErrors true [0x57] = [] ∧ framingErrors false [0x00] = [.badHeader] ∧
    framingErrors false [0x00, 0x57, 0xAB, 0x00, 0x01, 0x00, 0x03] = [.badHeader] ∧
    framingErrors false [0x00, 0x57, 0xAB, 0x00, 0x01, 0x00, 0x04] = [.badHeader, .badChecksum] ∧
    framingErrors false [0x57, 0xAB] = [] ∧ framingErrors true [0x57, 0xAB] = [.truncated] ∧
    framingErrorCode .badChecksum = (1, 1) ∧ framingErrorCode .truncated = (1, 2) ∧
    framingErrorCode .badHeader = (1, 3) := by decide +kernel

/-- R351: a pure function called while a transaction is outstanding returns and leaves the transaction as it is. -/
theorem test_pure_call_during_transaction :
    seen ending (step { waiting .getInfo .info with aside := [some (.sum8 [0x57, 0xAB]), none] }) =
      some ([.ok (.byte 0x02)], some ⟨0x00, 0x01⟩, .parse) ∧
    seen (fun s => (s.pos, s.aside)) (step { waiting .getInfo .info with aside := [none, some (.zstrip [])] }) =
      some (.deadline, [some (.zstrip [])]) := by decide +kernel

/-- R12, U11, U12: the refusals of the operations. -/
theorem test_refusals :
    step { State.reset with par := { Params.default with readMax := 0 } } = .refused .badConfiguration ∧
    step { invoking .getInfo with thnd := .released } = .refused .afterRelease ∧
    step (invoking (.pure (.cfgEncode { v30Record with vid := [] }))) = .refused .illFormedConfig :=
  ⟨rfl, rfl, rfl⟩

/-! ## Witnesses: states and operands that meet the hypotheses of the statements, clause by clause -/

/-- A valid frame: the get-info request (V10). -/
def infoRequest : Bytes := [0x57, 0xAB, 0x00, 0x01, 0x00, 0x03]

/-- An engine in the given position of a get-info transaction, with the given answers to come. -/
def at_ (pos : SeqPos) (env : Env) : State := { waiting .getInfo .info with pos := pos, env := env }

/-- HOST's next operation is invoked on an idle engine at reset. -/
theorem invoking_invokes (op : HostOp) : (invoking op).Invokes op State.reset :=
  ⟨[], invoking op, ⟨test_defaults_are_well_formed, rfl, rfl⟩, rfl, rfl, rfl, rfl⟩

/-- A state whose HOST has no call scheduled is its own turn. -/
theorem turn_self {s : State} (hw : s.par.wf = true) (ha : s.aside = []) : s.Turn s := by
  cases s; cases ha; exact ⟨hw, rfl, rfl⟩

/-- The same state with an entry in HOST's schedule that leaves the step to FC. -/
theorem turn_none {s : State} (hw : s.par.wf = true) (ha : s.aside = []) : ({ s with aside := [none] } : State).Turn s := by
  cases s; cases ha; exact ⟨hw, rfl, rfl⟩

/-- A pure function is called while a get-info transaction waits. -/
theorem asks_while_waiting (op : PureOp) :
    ({ waiting .getInfo .info with aside := [some op] } : State).Asks op (waiting .getInfo .info) :=
  .inr ⟨test_defaults_are_well_formed, rfl, rfl, rfl⟩

/-- The capacity 261, the least that R22 admits. -/
def capped : Params := { Params.default with rxbufCap := some 261 }

theorem capped_wf : capped.wf = true := by decide +kernel

/-- Operands of `Int` that are all in range. -/
def inRange (l : List Int) : Bool := l.all fun v => decide (0 ≤ v) && decide (v ≤ 255)

theorem test_witness_DecodeOfEncodeGivesTheInstruction :
    Params.default.wf = true ∧ (Instr.rspReset 0xFF (rep 0x57 255)).wellFormed Params.default = true ∧
    (Instr.reqReset 0x00).wellFormed Params.default = true := by decide +kernel

theorem test_witness_DecodedBytesHoldTheEncoding :
    Params.default.wf = true ∧
    decode Params.default ([0x57, 0x00] ++ infoRequest ++ [0x57]) = .instr (.reqGetInfo 0x00) [0x57] := by
  decide +kernel

theorem test_witness_DecoderAgreesWithTheOpcodeTable :
    (rep 0x00 255).length ≤ 255 ∧
    decodeFields Params.default 0x00 0x82 (rep 0x00 255) = some (.rspSendKbGeneral 0x00 (rep 0x00 255)) ∧
    decodeFields Params.default 0x00 0x01 [0x00] = none := by decide +kernel

theorem test_witness_ChecksumLaws :
    ([0x01, 0x02] : Bytes).Perm [0x02, 0x01] ∧ 1 < ([0x01, 0x02] : Bytes).length ∧ (0x05 : Byte) ≠ 0x02 ∧
    ((0x02 : Byte) - 0x01) + (0x01 - 0x02) = 0x00 := by decide +kernel

theorem test_witness_EncodeLaws :
    (rep 0x00 255).length ≤ 255 ∧ ([] : Bytes).length ≤ 255 ∧
    encodeFrame 0x00 0x01 [] = some infoRequest ∧ encodeFrame 0x00 0x01 [] = some infoRequest := by decide +kernel

theorem test_witness_EncodeOperationChecksThenEncodes (op : PureOp) :
    (invoking (.pure op)).Asks op State.reset ∧
    ({ waiting .getInfo .info with aside := [some op] } : State).Asks op (waiting .getInfo .info) ∧
    255 < (List.replicate 256 (0 : Int)).length ∧
    ([] : List Int).length ≤ 255 ∧ (∃ v ∈ ([256, 1] : List Int), v < 0 ∨ 255 < v) ∧
    ([255] : List Int).length ≤ 255 ∧ (∀ v ∈ ([0, 255, 255] : List Int), 0 ≤ v ∧ v ≤ 255) :=
  ⟨.inl (invoking_invokes _), asks_while_waiting op, by decide +kernel⟩

/-- V14: the frame and the changed LEN of the last clause. -/
theorem test_shorter_frame_after_changed_len :
    validFrame [0x57, 0xAB, 0x00, 0x01, 0x02, 0x03, 0x00, 0x08] = true ∧
    tryParse [0x57, 0xAB, 0x00, 0x01, 0x00, 0x03, 0x00, 0x08] =
      ⟨some ⟨0x57AB, 0x00, 0x01, 0x00, [], 0x03⟩, 6, .frameOk⟩ := by decide +kernel

theorem test_witness_OneChangedByteIsRejected :
    validFrame infoRequest = true ∧
    (∀ i ∈ [0, 1, 2, 3, 4, 5], i < infoRequest.length ∧ (0x99 : Byte) ≠ infoRequest.getD i 0x00) := by decide +kernel

theorem test_witness_CompleteFrameIsDelivered :
    findHeader [0x00, 0x57] = none ∧ (rep 0xAB 255).length ≤ 255 ∧ ([] : Bytes).length ≤ 255 := by decide +kernel

theorem test_witness_FailedCandidateIsConsumedWhole :
    findHeader [0x00, 0x57] = none ∧ (rep 0xAB 255).length ≤ 255 ∧
    (0x04 : Byte) ≠ sum8 (framePrefix 0x00 0x01 []) := by decide +kernel

theorem test_witness_IncompleteCandidateConsumesNothing :
    findHeader [0x57] = none ∧ ([0x00, 0x01] : Bytes).length < 3 ∧
    ([0x00, 0x01, 0x00] : Bytes)[2]? = some 0x00 ∧ ([0x00, 0x01, 0x00] : Bytes).length < 4 + (0x00 : Byte).toNat ∧
    ([0x00, 0x01, 0xFF] ++ rep 0x00 255)[2]? = some 0xFF ∧
    ([0x00, 0x01, 0xFF] ++ rep 0x00 255).length < 4 + (0xFF : Byte).toNat := by decide +kernel

theorem test_witness_NoHeaderKeepsAFinalHeaderByte :
    findHeader [] = none ∧ findHeader [0xAB, 0x57] = none ∧ findHeader [0x57, 0x00] = none := by decide +kernel

theorem test_witness_ConsumedStaysInBounds :
    (tryParse infoRequest).outcome = .frameOk ∧ (tryParse infoRequest).frame.isSome = true ∧
    (tryParse [0x57, 0xAB, 0x00, 0x01, 0x00, 0x04]).outcome = .sumError ∧
    (tryParse [0x57, 0xAB]).outcome = .incomplete ∧ (tryParse []).outcome = .noHeader ∧
    (tryParse [0x57]).outcome = .noHeader := by decide +kernel

theorem test_witness_PartialBufferSafety :
    validFrame infoRequest = true ∧ 2 ≤ 5 ∧ 5 < infoRequest.length ∧
    ([[0x57], [], [0xAB, 0x00], [0x01, 0x00, 0x03]] : List Bytes).flatten = infoRequest ∧
    ([[0x57], [], [0xAB, 0x00], [0x01, 0x00]] : List Bytes).flatten = infoRequest.take 5 := by decide +kernel

theorem test_witness_Resynchronisation :
    findHeader [0xFF, 0x57] = none ∧ ([0x11] : Bytes).length ≤ 255 ∧
    (0x00 : Byte) ≠ sum8 (framePrefix 0x00 0x82 [0x11]) ∧ validFrame infoRequest = true ∧
    (holding ([0xFF, 0x57] ++ (framePrefix 0x00 0x82 [0x11] ++ [0x00]) ++ infoRequest) State.reset).rxbuf =
      [0xFF, 0x57] ++ (framePrefix 0x00 0x82 [0x11] ++ [0x00]) ++ infoRequest := by decide +kernel

/-- Without a capacity, and with the least one filled to its last byte and drained between the pushes. -/
theorem test_witness_EventsDoNotDependOnChunking :
    (State.reset.rxbuf = [] ∧ PushesFit State.reset [infoRequest, rep 0x00 300]) ∧
    (({ State.reset with par := capped } : State).rxbuf = [] ∧
      PushesFit { State.reset with par := capped } [rep 0x00 261, infoRequest]) :=
  ⟨⟨rfl, pushesFit_of_cap_none rfl _⟩, rfl,
    (pushesFit_cons (cap := 261) rfl).2 ⟨by decide +kernel,
      (pushesFit_cons (cap := 261) (by simp [capped])).2 ⟨by decide +kernel, trivial⟩⟩⟩

theorem test_witness_SerialParserEmitsTheSegmentation : serialReset.ph = .hunt0 := rfl

/-- The turns of the statements about FC's own moves, with and without an entry in HOST's schedule. -/
theorem test_witness_Turn (pos : SeqPos) (env : Env) :
    (at_ pos env).Turn (at_ pos env) ∧ ({ at_ pos env with aside := [none] } : State).Turn (at_ pos env) :=
  ⟨turn_self test_defaults_are_well_formed rfl, turn_none test_defaults_are_well_formed rfl⟩

/-- The turns of StepRunsTheDecodedInstruction; its other hypotheses are the next theorem's. -/
theorem test_witness_StepRunsTheDecodedInstruction_turn :
    (State.reset.withFetchWord 40 0x57AB000100).Turn (State.reset.withFetchWord 40 0x57AB000100) ∧
    (State.reset.withFetchWord 40 0x57AB008200).Turn (State.reset.withFetchWord 40 0x57AB008200) ∧
    ({ State.reset with pos := .sendDirect } : State).Turn { State.reset with pos := .sendDirect } :=
  ⟨turn_self (by decide +kernel) rfl, turn_self (by decide +kernel) rfl, turn_self (by decide +kernel) rfl⟩

theorem test_witness_StepRunsTheDecodedInstruction :
    (State.reset.withFetchWord 40 0x57AB000100).pos = .send ∧ Params.default.wf = true ∧
    decode Params.default (frameBytes 0x00 0x01 []) = .instr (.reqGetInfo 0x00) [] ∧
    (Instr.reqGetInfo 0x00).isResponse = false ∧
    (State.reset.withFetchWord 40 0x57AB008200).pos = .parse ∧
    decode Params.default (State.reset.withFetchWord 40 0x57AB008200).rxbuf = .instr (.rspSendKbGeneral 0x00 []) [] ∧
    (Instr.rspSendKbGeneral 0x00 []).isResponse = true ∧
    handlerOwns (Instr.rspSendKbGeneral 0x00 []).command (State.reset.withFetchWord 40 0x57AB008200).hnd = true ∧
    ({ State.reset with pos := .sendDirect } : State).pos = .sendDirect ∧
    ({ State.reset with pos := .sendDirect } : State).Ready ∧ State.reset.txr.payload.length ≤ 255 ∧
    State.reset.env.opens.now = true ∧ State.reset.env.writes.now = .ok := by unfold State.Ready; decide +kernel

/-- The hypotheses of PlainRequestsAreSent, GetUsbStringRequestIsSentOrRefused and SetUsbStringRequestIsSentOrRefused. -/
theorem test_witness_RequestsAreSent :
    State.reset.Ready ∧ (rep 0x00 255).length ≤ 255 ∧ ([] : Bytes).length ≤ 255 ∧
    State.reset.env.opens.now = true ∧ State.reset.env.writes.now = .ok ∧ Params.default.wf = true ∧
    (0x02 : Byte).toNat ≤ 2 ∧ 2 < (0x03 : Byte).toNat ∧ (rep 0x41 23).length ≤ Params.default.strMax ∧
    Params.default.strMax < (rep 0x41 24).length := by unfold State.Ready; decide +kernel

theorem test_witness_RequestsReportTransportFailures :
    (Instr.reqGetInfo 0x00).isResponse = false ∧ (Instr.reqGetInfo 0x00).wellFormed Params.default = true ∧
    Admitted Params.default (.reqGetInfo 0x00) ∧
    Admitted Params.default (.reqGetUsbString 0x00 [0x02]) ∧
    Admitted Params.default (.reqSetUsbString 0x00 ([0x02, 0x17] ++ rep 0x41 23)) ∧
    (∀ e ∈ [({ envReset with opens := ⟨[], false⟩ } : Env), { envReset with writes := ⟨[], .fails 7⟩ },
        { envReset with writes := ⟨[], .hangs⟩ }], ({ State.reset with env := e } : State).Ready) ∧
    ({ envReset with opens := ⟨[false], true⟩ } : Env).opens.now = false ∧
    ({ envReset with writes := ⟨[], .fails 7⟩ } : Env).writes.now = .fails 7 ∧
    ({ envReset with writes := ⟨[], .hangs⟩ } : Env).writes.now = .hangs := by
  refine ⟨rfl, rfl, trivial, ⟨_, _, rfl, by decide⟩, ⟨_, _, rfl, by decide, by decide +kernel⟩, ?_, rfl, rfl, rfl⟩
  unfold State.Ready; decide +kernel

/-- The direct TRANSACTs of RequestsReportTransportFailures, RequestsNeedAFreeInstance and
OversizedRequestsAreRefusedAtS1. -/
theorem test_witness_DirectTransact :
    (∀ (env : Env) (pend : Option Pending) (thnd : Handle) (data : Bytes),
      ({ State.reset with pos := .sendDirect, env := env, pend := pend, thnd := thnd, txr := ⟨0x00, 0xFF, data⟩ }
        : State).Turn
        { State.reset with pos := .sendDirect, env := env, pend := pend, thnd := thnd, txr := ⟨0x00, 0xFF, data⟩ }) ∧
    (rep 0x00 255).length ≤ 255 ∧ 255 < (rep 0x00 256).length ∧ SeqPos.sending .sendDirect = true ∧
    SeqPos.sending .send = true ∧ State.reset.Ready :=
  ⟨fun _ _ _ _ => turn_self test_defaults_are_well_formed rfl, by decide +kernel, by decide +kernel, rfl, rfl, rfl, rfl⟩

theorem test_witness_RequestsNeedAFreeInstance :
    (Instr.reqReset 0x00).isResponse = false ∧ ({ State.reset with thnd := .released } : State).thnd = .released ∧
    (waiting .getInfo .info).thnd = .held ∧ (waiting .getInfo .info).pend ≠ none := by decide +kernel

theorem test_witness_OversizedRequestsAreRefusedAtS1 :
    State.reset.Ready ∧ 255 < (rep 0x00 256).length ∧ rep 0x00 256 = 0x00 :: rep 0x00 255 ∧ (0x00 : Byte).toNat ≤ 2 := by
  unfold State.Ready; decide +kernel

theorem test_witness_StatusResponsesEndTheTransaction (k : Command) : (waiting k .status).Awaits k 0xFF :=
  ⟨_, rfl, fun h => by cases h⟩

/-- R164: with `CORR_ADDR` set, the address must match. -/
theorem test_witness_StatusResponsesEndTheTransaction_address :
    ({ waiting .reset .status with par := { Params.default with corrAddr := true } } : State).Awaits .reset 0x00 :=
  ⟨_, rfl, fun _ => rfl⟩

theorem test_witness_GetInfoResponseEndsTheTransaction :
    (waiting .getInfo .info).Awaits .getInfo 0x00 ∧ (rep 0x00 10).length = Params.default.infoSize ∧
    (rep 0x00 9).length ≠ Params.default.infoSize ∧ (rep 0x00 11).length ≠ Params.default.infoSize :=
  ⟨⟨_, rfl, fun _ => rfl⟩, by decide, by decide, by decide⟩

theorem test_witness_GetParaCfgResponseEndsTheTransaction :
    Params.default.wf = true ∧ (waiting .getParaCfg .config).Awaits .getParaCfg 0x00 ∧
    v30.length = Params.default.cfgSize ∧ (v30.take 49).length ≠ Params.default.cfgSize :=
  ⟨by decide +kernel, ⟨_, rfl, fun _ => rfl⟩, by decide, by decide⟩

theorem test_witness_GetUsbStringResponseEndsTheTransaction :
    (waiting .getUsbString (.usbString 0x00)).Awaits .getUsbString 0x00 ∧
    (waiting .getUsbString (.usbString 0x00)).hnd = .usbString 0x00 ∧ ([0x00] : Bytes).length < 2 ∧
    2 < (0x03 : Byte).toNat ∧ (0x00 : Byte).toNat ≤ 2 ∧ ([0x41] : Bytes).length ≠ (0x02 : Byte).toNat ∧
    company.length = (0x0A : Byte).toNat ∧ (0x00 : Byte) = 0x00 ∧ (0x01 : Byte).toNat ≤ 2 ∧ (0x01 : Byte) ≠ 0x00 :=
  ⟨⟨_, rfl, fun _ => rfl⟩, rfl, by decide, by decide, by decide, by decide, by decide, rfl, by decide, by decide⟩

theorem test_witness_UncorrelatedResponsesAreDropped :
    (Instr.rspReset 0x01 [0x00]).isResponse = true ∧ State.reset.pend = none ∧
    (waiting .getInfo .info).pend = some ⟨0x00, 0x01⟩ ∧
    instrCmd Params.default (.rspReset 0x01 [0x00]) ≠ 0x01 ||| 0x80 ∧
    ({ Params.default with corrAddr := true } : Params).corrAddr = true ∧
    (Instr.rspReset 0x01 [0x00]).addr ≠ 0x00 := by decide +kernel

theorem test_witness_WaitingParsesUntilACorrelatedFrame :
    Params.default.wf = true ∧ (waiting .getInfo .info).pos = .parse ∧
    (tryParse (holding [0x57, 0xAB, 0x00, 0x81, 0x00, 0x00] (waiting .getInfo .info)).rxbuf).outcome = .sumError ∧
    (tryParse (holding [0x57, 0xAB] (waiting .getInfo .info)).rxbuf).outcome = .incomplete ∧
    (tryParse (waiting .getInfo .info).rxbuf).outcome = .noHeader ∧
    (tryParse infoRequest).frame = some ⟨0x57AB, 0x00, 0x01, 0x00, [], 0x03⟩ ∧ (0x01 : Byte) ≠ 0x01 ||| 0x80 := by
  decide +kernel

/-- V42: a get-info response of one byte. -/
theorem test_witness_CorrelatedFramesGoToTheHandler :
    Params.default.wf = true ∧ (waiting .getInfo .info).pos = .parse ∧
    (waiting .getInfo .info).pend = some ⟨0x00, 0x01⟩ ∧
    (tryParse (holding (frameBytes 0x00 0x81 [0x30]) (waiting .getInfo .info)).rxbuf).frame =
      some ⟨0x57AB, 0x00, 0x81, 0x01, [0x30], 0xB4⟩ ∧
    (0x81 : Byte) = 0x01 ||| 0x80 ∧ ((waiting .getInfo .info).par.corrAddr = true → (0x00 : Byte) = 0x00) ∧
    seen ending (step (holding (frameBytes 0x00 0x81 [0x30]) (waiting .getInfo .info))) =
      some ([.soft (.deviceRejected (.decode .badLength))], none, .idle) := by decide +kernel

theorem test_witness_DeadlineEndsTheWait :
    Params.default.wf = true ∧ (at_ .deadline envReset).pos = .deadline ∧
    (at_ .deadline envReset).env.deadlines.now = true ∧
    (at_ .deadline { envReset with deadlines := ⟨[false], true⟩ }).env.deadlines.now = false := by decide +kernel

theorem test_witness_ReadAppendsOneChunk :
    Params.default.wf = true ∧ capped.wf = true ∧ (at_ .read envReset).pos = .read ∧
    ({ envReset with opens := ⟨[], false⟩ } : Env).opens.now = false ∧ envReset.opens.now = true ∧
    ({ envReset with reads := ⟨[], .fails 3⟩ } : Env).reads.now = .fails 3 ∧
    ({ envReset with reads := ⟨[], .hangs⟩ } : Env).reads.now = .hangs ∧
    ({ envReset with reads := ⟨[.bytes (rep 0x00 65)], .bytes []⟩ } : Env).reads.now = .bytes (rep 0x00 65) ∧
    ((rep 0x00 65).take Params.default.readMax).length = 64 ∧
    (∀ c, Params.default.rxbufCap = some c → ([] : Bytes).length + 64 ≤ c) ∧
    capped.rxbufCap = some 261 ∧ (rep 0x00 197).length + ((rep 0x00 64).take capped.readMax).length ≤ 261 ∧
    261 < (rep 0x00 198).length + ((rep 0x00 64).take capped.readMax).length :=
  ⟨by decide +kernel, by decide +kernel, rfl, rfl, rfl, rfl, rfl, rfl, by decide +kernel, fun _ h => (by cases h), rfl,
    by decide +kernel, by decide +kernel⟩

theorem test_witness_EchoedRequestsNeverCorrelate : Params.default.wf = true := by decide +kernel

theorem test_witness_EveryTransactionReturns :
    (waiting .getInfo .info).par.wf = true ∧ (waiting .getInfo .info).pos.waiting = true ∧
    (waiting .getInfo .info).env.deadlines.rest = true ∧ (waiting .getInfo .info).env.Returns ∧
    true ∈ (⟨[false, true], false⟩ : Script Bool).head ∧
    (∀ op, some op ∈ [some (PureOp.sum8 []), none, some (.cfgEncode v30Record)] →
      (waiting .getInfo .info).thnd = .held ∧ ∀ c, op = .cfgEncode c → cfgWellFormed Params.default c = true) := by
  refine ⟨by decide +kernel, rfl, rfl, ⟨by decide, by decide⟩, by decide, fun op h => ⟨rfl, fun c hc => ?_⟩⟩
  subst hc
  simp only [List.mem_cons, Option.some.injEq, PureOp.cfgEncode.injEq, reduceCtorEq, List.not_mem_nil, or_false,
    false_or] at h
  subst h
  decide +kernel

/-- A record that is not well-formed: an empty `vid`. -/
def badRecord : DeviceConfig := { v30Record with vid := [] }

/-- The hypotheses of TypedOperationsHandOverTheirRequest. -/
theorem test_witness_TypedOperationsHandOverTheirRequest (op : HostOp) :
    (invoking op).Invokes op State.reset ∧
    (kbPack Params.default ⟨0x02, rep 0x04 6⟩).isSome = true ∧
    (msRelPack Params.default ⟨-128, 127, 255, 0⟩).isSome = true ∧
    (msAbsPack Params.default ⟨0, 65535, 255, -128⟩).isSome = true ∧
    cfgWellFormed Params.default v30Record = true ∧ cfgWellFormed Params.default badRecord = false ∧
    2 ≤ 2 ∧ (rep 0x41 23).length ≤ Params.default.strMax :=
  ⟨invoking_invokes op, by decide +kernel, by decide +kernel, by decide +kernel, by decide +kernel, by decide +kernel, le_rfl,
    by decide +kernel⟩

theorem test_witness_PackErrorsPrecedeTheTransaction (op : HostOp) :
    (invoking op).Invokes op State.reset ∧
    6 < (rep 0x04 7).length ∧ (-129 : Int) < -128 ∧ (65535 : Int) < 65536 ∧ 2 < 3 ∧ 2 ≤ 2 ∧
    Params.default.strMax < (rep 0x41 24).length :=
  ⟨invoking_invokes op, by decide, by decide, by decide, by decide, le_rfl, by decide⟩

theorem test_witness_PureOperationsOnlyReply (op : PureOp) :
    (invoking (.pure op)).Asks op State.reset ∧
    ({ waiting .getInfo .info with aside := [some op] } : State).Asks op (waiting .getInfo .info) ∧
    cfgDecode Params.default v30 = some v30Record ∧ cfgDecode Params.default [] = none ∧
    cfgWellFormed Params.default v30Record = true ∧ cfgWellFormed Params.default badRecord = false ∧
    (cfgSet Params.default v30Record (.num .vid 65535)).isSome = true ∧
    cfgSet Params.default v30Record (.num .vid 65536) = none ∧
    strEncode Params.default 2 [] = .inr [0x02, 0x00] ∧ strEncode Params.default 3 [] = .inl .badSlot ∧
    strDecode [0x02, 0x00] = .inr (2, []) ∧ strDecode [0x03, 0x00] = .inl .badSlot ∧
    (infoDecode Params.default (rep 0x00 10)).isSome = true ∧ infoDecode Params.default [] = none ∧
    (kbPack Params.default ⟨0x02, rep 0x04 6⟩).isSome = true ∧ kbPack Params.default ⟨0x02, rep 0x04 7⟩ = none ∧
    (msRelPack Params.default ⟨127, -128, 0, 0⟩).isSome = true ∧ msRelPack Params.default ⟨128, 0, 0, 0⟩ = none ∧
    (msAbsPack Params.default ⟨65535, 0, 0, 0⟩).isSome = true ∧ msAbsPack Params.default ⟨65536, 0, 0, 0⟩ = none :=
  ⟨.inl (invoking_invokes _), asks_while_waiting op, by decide +kernel⟩

theorem test_witness_ReceiveOperations (op : HostOp) :
    (invoking op).Invokes op State.reset ∧
    (∀ c, Params.default.rxbufCap = some c → ([] : Bytes).length + 1 ≤ c) ∧
    (∀ b, ({ invoking op with par := capped, rxbuf := b } : State).Invokes op
      { State.reset with par := capped, rxbuf := b }) ∧
    capped.rxbufCap = some 261 ∧ 261 < (rep 0x00 261).length + 1 ∧
    (∀ c, capped.rxbufCap = some c → (rep 0x00 260).length + 1 ≤ c) :=
  ⟨invoking_invokes op, fun c h => (by cases h),
    fun _ => ⟨[], _, turn_self capped_wf rfl, rfl, rfl, rfl, rfl⟩, rfl, by decide +kernel,
    fun c h => (by cases h; decide +kernel)⟩

theorem test_witness_CloseIsCalledOnceAtRelease :
    (invoking .release).closesMade = (if (invoking .release).thnd = .released then 1 else 0) ∧
    seen State.closesMade (step (invoking .release)) = some 1 ∧
    Params.default.wf = true ∧ ({ invoking .getInfo with thnd := .released } : State).pos = .idle ∧
    ({ invoking .getInfo with thnd := .released } : State).ops = [.getInfo] ∧
    ({ State.reset with thnd := .released, aside := [some (.sum8 [])] } : State).aside.headD none =
      some (.sum8 []) := by decide +kernel

/-- The turn of the second clause. -/
theorem test_witness_CloseIsCalledOnceAtRelease_turn :
    ({ invoking .getInfo with thnd := .released } : State).Turn { invoking .getInfo with thnd := .released } :=
  turn_self (by decide +kernel) rfl

theorem test_witness_OneTransactionWritesOneFrame :
    State.reset.pos.sending = false ∧ seen State.seq (step State.reset) = some 0 ∧
    (State.reset.withFetchWord 40 0x57AB000100).pos.sending = true ∧
    seen State.seq (step (State.reset.withFetchWord 40 0x57AB000100)) = some 1 ∧
    (State.reset.withFetchWord 40 0x57AB000100).aside.headD none = none ∧
    seen State.seq (step { State.reset.withFetchWord 40 0x57AB000100 with aside := [some (.sum8 [])] }) = some 0 := by
  decide +kernel

theorem test_witness_StepsKeepTheParameters :
    seen State.par (step (State.reset.withFetchWord 40 0x57AB000100)) = some Params.default ∧
    ({ Params.default with rxbufCap := some 260 } : Params).wf = false ∧ 260 < 261 := by decide +kernel

/-- A parameter choice for each way to be refused, at its boundary. -/
theorem test_witness_StepsKeepTheParameters_refused :
    (2 < 3 ∧ 255 < 256 ∧ 38 < 39 ∧ 253 < 254) ∧
    (({ Params.default with cmdReset := 0x80 } : Params).code .reset).msb = true ∧
    ({ Params.default with cmdReset := 0x01 } : Params).code .reset = Params.default.code .getInfo ∧
    7 < descBit { Params.default with descEnBits := ⟨8, 1, 0⟩ } .vendor ∧
    descBit { Params.default with descEnBits := ⟨1, 1, 0⟩ } .vendor =
      descBit { Params.default with descEnBits := ⟨1, 1, 0⟩ } .product ∧
    (∃ r ∈ Params.default.cfgLayout, 49 < r.offset + r.width) ∧
    (∃ o < 51, (Params.default.cfgLayout.filter fun r => r.covers o).length ≠ 1) := by decide +kernel

/-- The invariant holds, and a step is taken, in a state that has delivered a frame and waits for another. -/
theorem test_witness_StepKeepsTheInvariant :
    ({ waiting .getInfo .info with fr := ⟨true, ⟨0x57AB, 0x00, 0x01, 0x00, [], 0x03⟩⟩ } : State).Inv ∧
    seen State.pos (step { waiting .getInfo .info with fr := ⟨true, ⟨0x57AB, 0x00, 0x01, 0x00, [], 0x03⟩⟩ }) =
      some .deadline :=
  ⟨⟨fun _ => ⟨rfl, rfl, by decide +kernel⟩, ⟨rfl, fun h => by cases h⟩, rfl, trivial⟩, by decide +kernel⟩

theorem test_witness_ReceiveBufferStaysBounded :
    (holding [0x57] (at_ .deadline { envReset with deadlines := ⟨[false], true⟩ })).BufInv ∧
    seen State.pos (step (holding [0x57] (at_ .deadline { envReset with deadlines := ⟨[false], true⟩ }))) = some .read :=
  ⟨⟨rfl, by decide, ⟨[0x57], [], .inr (.inl rfl), by decide, rfl⟩, fun _ => .inr (.inl rfl)⟩, by decide +kernel⟩

theorem test_witness_LargeCapacityNeverOverflows :
    ({ at_ .read envReset with par := { Params.default with rxbufCap := some 388 } } : State).BufInv ∧
    2 * Params.default.readMax + 260 ≤ 388 ∧
    seen State.pos (step { at_ .read envReset with par := { Params.default with rxbufCap := some 388 } }) =
      some .parse :=
  ⟨⟨rfl, by decide, ⟨[], [], .inl rfl, by decide, rfl⟩, fun _ => .inl rfl⟩, by decide, by decide +kernel⟩

theorem test_witness_ConfigDecodeOfEncode :
    Params.default.wf = true ∧ cfgRepresentable Params.default v30Record = true ∧
    cfgWellFormed Params.default { v30Record with enterChars := rep 0x0D 9, filter := [0x41, 0x00] } = true := by
  decide +kernel

theorem test_witness_ConfigEncodeOfDecode :
    Params.default.wf = true ∧ cfgDecode Params.default v30 = some v30Record ∧
    ⟨.vid, 12, 2, .bytes .le⟩ ∈ Params.default.cfgLayout ∧
    v30.length = Params.default.cfgSize ∧ (v30 ++ [0x00]).length ≠ Params.default.cfgSize := by
  decide +kernel

theorem test_witness_ConfigSetTouchesOnlyItsRange :
    Params.default.wf = true ∧ cfgDecode Params.default v30 = some v30Record ∧
    (cfgSet Params.default v30Record (.num .baud 4294967295)).isSome = true ∧
    (cfgSet Params.default v30Record (.desc .product true)).isSome = true ∧
    (cfgSet Params.default v30Record (.num .kbReleaseDelay 0)).isSome = true ∧
    (cfgRow Params.default .baud).covers 5 = false ∧ DescFlag.product = .product ∧
    0 ≠ descBit Params.default .product := by decide +kernel

theorem test_witness_ConfigGetAfterSet :
    (cfgRaw v30Record (numFieldOf .workMode) = [0x80] ∧ (cfgRow Params.default (numFieldOf .workMode)).kind = .u8) ∧
    (cfgRaw v30Record (numFieldOf .vid) = [0x86, 0x1A] ∧ (cfgRow Params.default (numFieldOf .vid)).kind = .bytes .le) ∧
    (cfgRaw v30Record (numFieldOf .packetInterval) = [0x00, 0x03] ∧
      (cfgRow Params.default (numFieldOf .packetInterval)).kind = .bytes .be) ∧
    (cfgRaw v30Record (numFieldOf .baud) = [0x00, 0x00, 0x25, 0x80] ∧
      (cfgRow Params.default (numFieldOf .baud)).kind = .bytes .be) ∧
    (cfgSet Params.default v30Record (.num .vid 65535)).isSome = true ∧
    Params.default.wf = true ∧ (0 : Int) ≤ 65535 ∧
    (65535 : Int) < ((256 ^ (cfgRow Params.default (numFieldOf .vid)).width : Nat) : Int) ∧
    ((256 ^ (cfgRow Params.default (numFieldOf .vid)).width : Nat) : Int) ≤ 65536 ∧ (-1 : Int) < 0 ∧
    DescFlag.vendor ≠ .product := by decide +kernel

theorem test_witness_StringsPadAndStrip :
    8 ≤ (rep 0x41 8).length ∧ (rep 0x41 7).length ≤ 8 ∧ (rep 0x41 7).getLast? ≠ some 0x00 := by decide +kernel

theorem test_witness_StringRecordRoundTrips :
    Params.default.wf = true ∧ 2 ≤ 2 ∧ (rep 0x41 23).length ≤ Params.default.strMax ∧
    strDecode ([0x00, 0x0A] ++ company) = .inr (0, company) ∧ company.length ≤ Params.default.strMax := by
  decide +kernel

theorem test_witness_ReportPayloads :
    (rep 0x04 6).length ≤ 6 ∧ (-128 : Int) ≤ -128 ∧ (127 : Int) ≤ 127 ∧ (0 : Int) ≤ 0 ∧ (255 : Int) ≤ 255 ∧
    (65535 : Int) ≤ 65535 := by decide

end Sys2Proof.Tests
end

/-! # Proofs for spec/00_scope.md: echoed requests (R67, R379), and what no step changes (R27, R34) -/

namespace Sys2Proof

/-! ## What the parameters of an instantiation satisfy (R12, R22) -/

/-- R12, R22: the checks an instantiation has passed, one by one. -/
theorem Params.wf_iff (par : Params) :
    par.wf = true ↔
      par.capOk = true ∧ par.codesOk = true ∧ par.infoOk = true ∧ 39 ≤ par.cfgSize ∧ par.cfgSize ≤ maxPayload ∧
      par.cfgLayoutOk = true ∧ par.descBitsOk = true ∧ par.strMax + 2 ≤ maxPayload ∧
      par.kbLayout.length ≤ maxPayload ∧ par.msRelLayout.length ≤ maxPayload ∧
      par.msAbsLayout.length ≤ maxPayload ∧ 0 < par.readMax := by
  simp only [Params.wf, Bool.and_eq_true, decide_eq_true_eq, and_assoc]

/-- R22: a finite capacity holds the largest frame. -/
theorem Params.maxFrame_le_of_capOk {par : Params} (h : par.capOk = true) {c : Nat} (hc : par.rxbufCap = some c) :
    maxFrame ≤ c := by
  simpa [Params.capOk, hc] using h

/-- R260: DeviceInfo has its three interpreted bytes and fits a payload. -/
theorem Params.infoSize_bounds_of_infoOk {par : Params} (h : par.infoOk = true) :
    3 ≤ par.infoSize ∧ par.infoSize ≤ maxPayload := by
  simp only [Params.infoOk, Bool.and_eq_true, decide_eq_true_eq, and_assoc] at h
  exact ⟨h.1, h.2.1⟩

/-- R12: a row of `CFG_LAYOUT` lies inside the record. -/
theorem Params.row_inside_of_cfgLayoutOk {par : Params} (h : par.cfgLayoutOk = true) {r : CfgRow}
    (hr : r ∈ par.cfgLayout) : r.offset + r.width ≤ par.cfgSize := by
  simp only [Params.cfgLayoutOk, Bool.and_eq_true, List.all_eq_true, decide_eq_true_eq] at h
  obtain ⟨⟨-, hrows⟩, -⟩ := h
  exact (hrows r hr).2

/-- R12: exactly one row of `CFG_LAYOUT` covers an offset of the record. -/
theorem Params.covered_once_of_cfgLayoutOk {par : Params} (h : par.cfgLayoutOk = true) {o : Nat}
    (ho : o < par.cfgSize) : (par.cfgLayout.filter fun r => r.covers o).length = 1 := by
  simp only [Params.cfgLayoutOk, Bool.and_eq_true, List.all_eq_true, List.mem_range, beq_iff_eq] at h
  exact h.2 o ho

end Sys2Proof

namespace Sys2Proof.Machine

open Sys2Proof.Laws

/-- R12: a descriptor bit is a bit of one byte. -/
theorem descBit_lt {par : Params} (h : par.descBitsOk = true) (f : DescFlag) : descBit par f < 8 := by
  simp only [Params.descBitsOk, Bool.and_eq_true, decide_eq_true_eq, and_assoc] at h
  obtain ⟨hv, hp, hs, -⟩ := h
  cases f
  case vendor => exact hv
  case product => exact hp
  case serial => exact hs

/-- R12: two descriptors with one bit are one descriptor. -/
theorem descBit_inj {par : Params} (h : par.descBitsOk = true) {f g : DescFlag}
    (hfg : descBit par f = descBit par g) : f = g := by
  simp only [Params.descBitsOk, Bool.and_eq_true, bne_iff_ne, and_assoc] at h
  obtain ⟨-, -, -, hvp, hvs, hps⟩ := h
  cases f <;> cases g <;> simp_all [descBit]

/-! ## Everything an instruction, an operation and a step can do -/

/-- R160, R178, R180: a request instruction sends its own frame, or is refused before anything is sent. -/
theorem exec_request_cases {i : Instr} (hi : i.isResponse = false) (s : State) :
    (∃ h, exec i s = transmit i.addr (instrCmd s.par i) i.data h s) ∨ (∃ e, exec i s = refuseRequest e s) := by
  cases i with
  | reqGetUsbString a d =>
    simp only [exec, execReqGetUsbString]
    split
    · exact .inl ⟨_, rfl⟩
    · exact .inr ⟨_, rfl⟩
  | reqSetUsbString a d =>
    simp only [exec, execReqSetUsbString]
    split
    · split
      · exact .inr ⟨_, rfl⟩
      · exact .inl ⟨_, rfl⟩
    · exact .inr ⟨_, rfl⟩
  | reqGetInfo | reqSendKbGeneral | reqSendMsAbs | reqSendMsRel | reqGetParaCfg | reqSetParaCfg | reqSetDefaultCfg
  | reqReset => exact .inl ⟨_, rfl⟩
  | rspGetInfo | rspSendKbGeneral | rspSendMsAbs | rspSendMsRel | rspGetParaCfg | rspSetParaCfg | rspGetUsbString
  | rspSetUsbString | rspSetDefaultCfg | rspReset => cases hi

/-- R160: a response instruction responds to its own frame. -/
theorem exec_response_eq {i : Instr} (hi : i.isResponse = true) (s : State) :
    ∃ r, exec i s = respond i.addr (instrCmd s.par i) r s := by
  cases i with
  | rspGetInfo | rspSendKbGeneral | rspSendMsAbs | rspSendMsRel | rspGetParaCfg | rspSetParaCfg | rspGetUsbString
  | rspSetUsbString | rspSetDefaultCfg | rspReset => exact ⟨_, rfl⟩
  | reqGetInfo | reqSendKbGeneral | reqSendMsAbs | reqSendMsRel | reqGetParaCfg | reqSetParaCfg | reqGetUsbString
  | reqSetUsbString | reqSetDefaultCfg | reqReset => cases hi

/-- R297 S1 to S5: the send step transmits a request, or refuses it before anything is sent. -/
theorem sendStep_cases (s : State) :
    (∃ addr cmd payload h, sendStep s = transmit addr cmd payload h s) ∨ (∃ e, sendStep s = refuseRequest e s) := by
  unfold sendStep
  split
  · split
    · split
      · exact .inl ⟨_, _, _, _, rfl⟩
      · rename_i hi
        obtain ⟨h, heq⟩ | ⟨e, heq⟩ := exec_request_cases (Bool.eq_false_iff.mpr hi) s
        · exact .inl ⟨_, _, _, h, heq⟩
        · exact .inr ⟨e, heq⟩
    · exact .inl ⟨_, _, _, _, rfl⟩
  · exact .inl ⟨_, _, _, _, rfl⟩

/-- R297 S6, R301: whatever frame is delivered, it is matched against `PEND`. -/
theorem takeFrame_eq_respond (f : Frame) (s : State) : ∃ addr cmd r, takeFrame f s = respond addr cmd r s := by
  unfold takeFrame
  split
  · split
    · rename_i hi
      obtain ⟨r, heq⟩ := exec_response_eq (Bool.and_eq_true_iff.mp hi).1 s
      exact ⟨_, _, r, heq⟩
    · exact ⟨_, _, _, rfl⟩
  · exact ⟨_, _, _, rfl⟩

/-- Everything a HOST operation can do (R2), one constructor for each way it can answer; that `runHeld` answers so is
`runHeld_answers`. -/
inductive HeldAnswer (s : State) : HostOp → Answer → Prop where
  /-- R58, R324, R331: only a result: of a pure function, or an error raised before anything changes -/
  | result (op : HostOp) (r : Reply) : HeldAnswer s op (.next (s.replied r))
  /-- R208, U12: the record is not well-formed -/
  | illFormed {op : HostOp} (c : DeviceConfig) (ho : op = .pure (.cfgEncode c) ∨ op = .setConfig c)
      (hc : cfgWellFormed s.par c = false) : HeldAnswer s op (.refused .illFormedConfig)
  /-- R187, R307 to R316: a typed operation hands its request to SEQR -/
  | typed (op : HostOp) (cmd : Byte) (payload : Bytes) (h : Handler) : HeldAnswer s op (.next (s.toSend cmd payload h))
  /-- R297: a direct TRANSACT -/
  | direct (cmd : Byte) (payload : Bytes) (h : Handler) :
      HeldAnswer s (.transact cmd payload h) (.next { s.toSend cmd payload h with pos := .sendDirect })
  /-- R130: a chunk that fits -/
  | pushed {chunk : Bytes} {t : State} (hp : s.rxPush chunk = some t) :
      HeldAnswer s (.rxPush chunk) (.next (t.replied (.ok .unit)))
  /-- R133: TRY_PARSE of `RXBUF` or of HOST's own buffer -/
  | parsed {op : HostOp} (buf : Bytes) (ho : op = .tryParse ∧ buf = s.rxbuf ∨ op = .tryParseOf buf) :
      HeldAnswer s op (.next ((s.loadFr (tryParse buf)).replied (.ok (.parsed (tryParse buf)))))
  /-- R140: PARSE_STEP -/
  | parseStepped : HeldAnswer s .parseStep (.next (s.parseStep.replied (.ok (.parsed (tryParse s.rxbuf)))))
  /-- R141: DRAIN -/
  | drained : HeldAnswer s .drain (.next (s.drain.2.replied (.ok (.events s.drain.1))))
  /-- R150: the byte-serial parser -/
  | fed (chunk : Bytes) :
      HeldAnswer s (.serialFeed chunk)
        (.next (State.replied { s with ser := (serialRun s.ser chunk).1 } (.ok (.events (serialRun s.ser chunk).2))))
  /-- R364: release -/
  | released :
      HeldAnswer s .release
        (.next (State.replied { s with thnd := .released, calls := .close :: s.calls } (.ok .unit)))

/-- A packer's operation returns its error, or begins a typed transaction with the packed payload. -/
theorem packed_startTransact_answers (op : HostOp) (p : Option Bytes) (e : EncodingError) (cmd : Byte) (h : Handler)
    (s : State) : HeldAnswer s op (packed p e (startTransact cmd h) s) := by
  cases p with
  | some b => exact .typed op cmd b h
  | none => exact .result op (encodingReply e)

theorem runHeld_answers (op : HostOp) (s : State) : HeldAnswer s op (runHeld op s) := by
  cases op with
  | pure op =>
    obtain ⟨r, h⟩ | ⟨c, rfl, hc, h⟩ := runPure_cases op s
    · simpa only [runHeld, h] using .result (.pure op) r
    · simpa only [runHeld, h] using .illFormed c (.inl rfl) hc
  | setConfig c =>
    simp only [runHeld, opSetConfig]
    split
    · exact .typed ..
    · exact .illFormed c (.inr rfl) (by simp_all)
  | sendKeyboard | sendMouseRel | sendMouseAbs => exact packed_startTransact_answers ..
  | getUsbDescriptor slot =>
    simp only [runHeld, opGetUsbDescriptor]
    split
    · exact .result ..
    · exact .typed ..
  | setUsbDescriptor slot text =>
    simp only [runHeld, opSetUsbDescriptor]
    split
    · exact .result ..
    · exact .typed ..
  | getInfo | getConfig | setConfigToDefault | chipReset => exact .typed ..
  | transact cmd payload h => exact .direct cmd payload h
  | rxPush chunk =>
    simp only [runHeld, opRxPush]
    split
    · exact .pushed ‹_›
    · exact .result ..
  | tryParse => exact .parsed s.rxbuf (.inl ⟨rfl, rfl⟩)
  | tryParseOf buf => exact .parsed buf (.inr rfl)
  | parseStep => exact .parseStepped
  | drain => exact .drained
  | serialFeed chunk => exact .fed chunk
  | release => exact .released

/-- R12, R22: parameters no instantiation may take are refused as a configuration. -/
theorem step_of_not_wf {s : State} (h : s.par.wf = false) : step s = .refused .badConfiguration := by
  simp [step, seqStep, h]

/-- R351: under good parameters a step is a pure function that HOST calls now, or FC's own move. -/
theorem step_of_wf {s : State} (h : s.par.wf = true) :
    (∃ op, s.aside.headD none = some op ∧ step s = runOp (.pure op) s.takeTurn) ∨
    (s.aside.headD none = none ∧ step s = moveStep s.takeTurn) := by
  simp only [step, seqStep, h, if_true]
  cases s.aside.headD none with
  | some op => exact .inl ⟨op, rfl, rfl⟩
  | none => exact .inr ⟨rfl, rfl⟩

/-! ## The parameters and `TIMEOUT_CFG` are constant (R27, R34) -/

@[simp] theorem State.started_par (s : State) : s.started.par = s.par := rfl
@[simp] theorem State.started_timeoutCfg (s : State) : s.started.timeoutCfg = s.timeoutCfg := rfl
@[simp] theorem State.replied_par (s : State) (r : Reply) : (s.replied r).par = s.par := rfl
@[simp] theorem State.replied_timeoutCfg (s : State) (r : Reply) : (s.replied r).timeoutCfg = s.timeoutCfg := rfl
@[simp] theorem State.toSend_par (s : State) (cmd : Byte) (payload : Bytes) (h : Handler) :
    (s.toSend cmd payload h).par = s.par := rfl
@[simp] theorem State.toSend_timeoutCfg (s : State) (cmd : Byte) (payload : Bytes) (h : Handler) :
    (s.toSend cmd payload h).timeoutCfg = s.timeoutCfg := rfl

/-- DRAIN keeps `TIMEOUT_CFG`. -/
theorem drainFuel_timeoutCfg (n : Nat) (s : State) : (drainFuel n s).2.timeoutCfg = s.timeoutCfg := by
  induction n generalizing s with
  | zero => rfl
  | succ n ih =>
    simp only [drainFuel]
    split <;> simp [ih]

@[simp] theorem drain_timeoutCfg (s : State) : s.drain.2.timeoutCfg = s.timeoutCfg := drainFuel_timeoutCfg _ _

/-- R27, R34: if the answer is a next state, it has the parameters and the `TIMEOUT_CFG` of `s`. -/
def KeepsConfig (s : State) (a : Answer) : Prop :=
  ∀ t, a = .next t → t.par = s.par ∧ t.timeoutCfg = s.timeoutCfg

@[simp] theorem keepsConfig_next {s t : State} :
    KeepsConfig s (.next t) ↔ t.par = s.par ∧ t.timeoutCfg = s.timeoutCfg := by
  simp [KeepsConfig]

@[simp] theorem keepsConfig_fault (s : State) (f : Fault) : KeepsConfig s (.fault f) := by simp [KeepsConfig]

@[simp] theorem keepsConfig_refused (s : State) (r : Refusal) : KeepsConfig s (.refused r) := by simp [KeepsConfig]

/-- Only the two fields count, so the answer may be judged from any state that has them. -/
theorem keepsConfig_of_eq {s s' : State} {a : Answer} (h : KeepsConfig s' a) (hp : s'.par = s.par)
    (ht : s'.timeoutCfg = s.timeoutCfg) : KeepsConfig s a := by
  simpa only [KeepsConfig, hp, ht] using h

theorem whenFree_keepsConfig {s : State} {k : State → Answer} (hk : KeepsConfig s (k s)) :
    KeepsConfig s (whenFree s k) := by
  obtain ⟨-, h⟩ | ⟨-, -, h⟩ | ⟨-, -, h⟩ := whenFree_cases s k <;> simp [h, hk]

theorem writeRequest_keepsConfig (addr cmd : Byte) (h : Handler) (frame : Bytes) (s : State) :
    KeepsConfig s (writeRequest addr cmd h frame s) := by
  obtain ⟨-, heq⟩ | ⟨e, -, heq⟩ | ⟨-, heq⟩ := writeRequest_cases addr cmd h frame s <;> simp [heq]

theorem transmit_keepsConfig (addr cmd : Byte) (payload : Bytes) (h : Handler) (s : State) :
    KeepsConfig s (transmit addr cmd payload h s) := by
  refine whenFree_keepsConfig ?_
  obtain ⟨-, heq⟩ | ⟨-, -, heq⟩ | ⟨-, -, heq⟩ := sendRequest_cases addr cmd payload h s
  · simp [heq]
  · simp [heq]
  · rw [heq]
    exact keepsConfig_of_eq (writeRequest_keepsConfig _ _ _ _ _) (by simp) (by simp)

theorem refuseRequest_keepsConfig (e : EncodingError) (s : State) : KeepsConfig s (refuseRequest e s) :=
  whenFree_keepsConfig (by simp)

theorem respond_keepsConfig (addr cmd : Byte) (r : Reply) (s : State) : KeepsConfig s (respond addr cmd r s) := by
  obtain ⟨p, -, -, h⟩ | ⟨-, h⟩ := respond_cases (rfl : respond addr cmd r s = _) <;> simp [h]

theorem HeldAnswer.keepsConfig {op : HostOp} {s : State} {a : Answer} (h : HeldAnswer s op a) : KeepsConfig s a := by
  cases h with
  | pushed hp =>
    obtain ⟨-, rfl⟩ := rxPush_eq_some hp
    simp
  | result | illFormed | typed | direct | parsed | parseStepped | drained | fed | released => simp

theorem runOp_keepsConfig (op : HostOp) (s : State) : KeepsConfig s (runOp op s) := by
  unfold runOp
  split
  · simp
  · exact (runHeld_answers op s).keepsConfig

theorem idleStep_keepsConfig (s : State) : KeepsConfig s (idleStep s) := by
  unfold idleStep
  split
  · simp
  · exact keepsConfig_of_eq (runOp_keepsConfig _ _) rfl rfl

theorem sendStep_keepsConfig (s : State) : KeepsConfig s (sendStep s) := by
  obtain ⟨addr, cmd, payload, h, heq⟩ | ⟨e, heq⟩ := sendStep_cases s
  · exact heq ▸ transmit_keepsConfig addr cmd payload h s
  · exact heq ▸ refuseRequest_keepsConfig e s

theorem parsePosStep_keepsConfig (s : State) : KeepsConfig s (parsePosStep s) := by
  unfold parsePosStep
  split
  · rename_i f _
    obtain ⟨addr, cmd, r, heq⟩ := takeFrame_eq_respond f s.parseStep
    rw [heq]
    exact keepsConfig_of_eq (respond_keepsConfig _ _ _ _) (by simp) (by simp)
  · split <;> simp

theorem deadlineStep_keepsConfig (s : State) : KeepsConfig s (deadlineStep s) := by
  unfold deadlineStep
  split <;> simp

theorem readStep_keepsConfig (s : State) : KeepsConfig s (readStep s) := by
  unfold readStep
  split
  · simp only
    split
    · simp
    · simp
    · split
      · rename_i hpush
        obtain ⟨-, rfl⟩ := rxPush_eq_some hpush
        simp
      · simp
  · simp

theorem moveStep_keepsConfig (s : State) : KeepsConfig s (moveStep s) := by
  unfold moveStep
  cases s.pos with
  | idle => exact idleStep_keepsConfig s
  | send => exact sendStep_keepsConfig s
  | sendDirect => exact transmit_keepsConfig s.txr.addr s.txr.cmd s.txr.payload s.hnd s
  | parse => exact parsePosStep_keepsConfig s
  | deadline => exact deadlineStep_keepsConfig s
  | read => exact readStep_keepsConfig s

/-- R27, R34: no step changes a parameter or `TIMEOUT_CFG`. -/
theorem step_keepsConfig (s : State) : KeepsConfig s (step s) := by
  cases hw : s.par.wf with
  | false => simp [step_of_not_wf hw]
  | true =>
    obtain ⟨op, -, h⟩ | ⟨-, h⟩ := step_of_wf hw
    · exact h ▸ keepsConfig_of_eq (runOp_keepsConfig (.pure op) s.takeTurn) rfl rfl
    · exact h ▸ keepsConfig_of_eq (moveStep_keepsConfig s.takeTurn) rfl rfl

/-! ## The statements -/

/-- Settles O39: CORRELATE asks for a CMD with bit 7 set, and R12 keeps bit 7 of every request code clear. -/
theorem echoedRequestsNeverCorrelate : Obligations.EchoedRequestsNeverCorrelate := by
  intro par sent echoed a a' hw
  obtain ⟨-, hcodes, -⟩ := par.wf_iff.mp hw
  have hne : par.code echoed ≠ respCode (par.code sent) := fun heq => by
    have hclear : (par.code echoed).msb = false := code_msb hcodes echoed
    rw [heq, respCode_msb] at hclear
    cases hclear
  simp [correlate, hne]

/-- Settles O47: every part of a step keeps the two fields, and each broken bound contradicts the check that R12, R22 or
R11's table has for it. -/
theorem stepsKeepTheParameters : Obligations.StepsKeepTheParameters := by
  refine ⟨fun s t h => step_keepsConfig s t h, fun s h => step_of_not_wf h, fun s hbad => ?_⟩
  refine step_of_not_wf (Bool.eq_false_iff.mpr fun hw => ?_)
  obtain ⟨hcap, hcodes, hinfo, hcfgMin, hcfgMax, hlayout, hdesc, hstr, -, -, -, hread⟩ := s.par.wf_iff.mp hw
  obtain ⟨hinfoMin, hinfoMax⟩ := Params.infoSize_bounds_of_infoOk hinfo
  simp only [maxPayload] at hcfgMax hstr hinfoMax
  rcases hbad with ⟨c, hc, hlt⟩ | h | h | h | h | h | h | ⟨k, hk⟩ | ⟨k, l, hne, heq⟩ | ⟨f, hf⟩ | ⟨f, g, hne, heq⟩ |
    ⟨r, hr, hlt⟩ | ⟨o, ho, hne⟩
  · exact absurd (Params.maxFrame_le_of_capOk hcap hc) (Nat.not_le.mpr hlt)
  · omega
  · omega
  · omega
  · omega
  · omega
  · omega
  · simp [code_msb hcodes k] at hk
  · exact hne (code_inj hcodes heq)
  · exact absurd (descBit_lt hdesc f) (by omega)
  · exact hne (descBit_inj hdesc heq)
  · exact absurd (Params.row_inside_of_cfgLayoutOk hlayout hr) (Nat.not_le.mpr hlt)
  · exact hne (Params.covered_once_of_cfgLayoutOk hlayout ho)

end Sys2Proof.Machine

/-! # Proofs for spec/10_state.md: the invariant of FC (R22, R23, R26, R150, R306) -/

namespace Sys2Proof.Machine

/-! ## What a delivered frame holds (R23, R131, R133) -/

/-- SUM8 of one more byte (R111). -/
theorem sum8From_concat (acc : Byte) (l : Bytes) (b : Byte) : sum8From acc (l ++ [b]) = sum8From acc l + b := by
  induction l generalizing acc with
  | nil => rfl
  | cons x xs ih => exact ih (acc + x)

theorem sum8_concat (l : Bytes) (b : Byte) : sum8 (l ++ [b]) = sum8 l + b := sum8From_concat 0#8 l b

/-- R131: at the index that FIND_HEADER answers stand the two header bytes. -/
theorem drop_of_findHeader {b : Bytes} {h : Nat} (hh : findHeader b = some h) :
    ∃ rest, b.drop h = hdr0 :: hdr1 :: rest := by
  induction b generalizing h with
  | nil => cases hh
  | cons x xs ih =>
    cases xs with
    | nil => cases hh
    | cons y ys =>
      simp only [findHeader] at hh
      split at hh
      · next hxy =>
        obtain ⟨rfl, rfl⟩ := hxy
        cases hh
        exact ⟨ys, rfl⟩
      · obtain ⟨k, hk, rfl⟩ := Option.map_eq_some_iff.mp hh
        exact ih hk

/-- A byte behind index `h` is a byte of what is left after `h` bytes. -/
theorem byteAt_add (b : Bytes) (h k : Nat) : byteAt b (h + k) = byteAt (b.drop h) k := by
  simp [byteAt, List.getD_eq_getElem?_getD]

/-- A range behind index `h` is a range of what is left after `h` bytes. -/
theorem slice_add (b : Bytes) (h i j : Nat) : slice b (h + i) (h + j) = slice (b.drop h) i j := by
  simp [slice, List.take_drop, List.drop_drop]

/-- R23, R133: a complete candidate whose checksum is right may be delivered. -/
theorem candidate_sound {b : Bytes} {h : Nat} (hh : findHeader b = some h)
    (hlen : 6 + (byteAt b (h + 4)).toNat ≤ b.length - h)
    (hsum : sum8 (slice b h (h + (6 + (byteAt b (h + 4)).toNat) - 1)) =
      byteAt b (h + (6 + (byteAt b (h + 4)).toNat) - 1)) : FrameSound (candidate b h) := by
  obtain ⟨rest, hdrop⟩ := drop_of_findHeader hh
  have hrest : b.length - h = rest.length + 2 := by simpa using congrArg List.length hdrop
  obtain ⟨addr, cmd, len, tail, rfl⟩ : ∃ addr cmd len tail, rest = addr :: cmd :: len :: tail := by
    match rest with
    | addr :: cmd :: len :: tail => exact ⟨addr, cmd, len, tail, rfl⟩
    | [] | [_] | [_, _] => simp at hrest; omega
  have haddr : byteAt b (h + 2) = addr := by rw [byteAt_add, hdrop]; rfl
  have hcmd : byteAt b (h + 3) = cmd := by rw [byteAt_add, hdrop]; rfl
  have hl : byteAt b (h + 4) = len := by rw [byteAt_add, hdrop]; rfl
  have hend : h + (6 + len.toNat) - 1 = h + 5 + len.toNat := by omega
  have hpayload : slice b (h + 5) (h + 5 + len.toNat) = tail.take len.toNat := by
    rw [Nat.add_assoc, slice_add, hdrop, Nat.add_comm 5]; rfl
  have hbody : slice b h (h + 5 + len.toNat) = [hdr0, hdr1, addr, cmd, len] ++ tail.take len.toNat := by
    rw [Nat.add_assoc]
    exact (slice_add b h 0 (5 + len.toNat)).trans (by rw [hdrop, Nat.add_comm 5]; rfl)
  have hlength : (tail.take len.toNat).length = len.toNat := by
    rw [hl] at hlen
    simp only [List.length_cons] at hrest
    simp only [List.length_take]
    omega
  rw [hl, hend, hbody] at hsum
  refine ⟨rfl, ?_, ?_⟩
  · simp only [candidate, hl, hpayload, hlength]
  · simp only [candidate, haddr, hcmd, hl, hpayload, framePrefix, hlength, BitVec.ofNat_toNat, BitVec.setWidth_eq]
    exact hsum.symm

/-- R23, R133: whatever frame TRY_PARSE delivers is sound. -/
theorem tryParse_frame_sound {b : Bytes} {f : Frame} (hf : (tryParse b).frame = some f) : FrameSound f := by
  obtain ⟨-, h⟩ | ⟨_, -, -, h⟩ | ⟨k, hk, hlen, hsum, h⟩ | ⟨_, -, -, -, h⟩ := tryParse_cases b
  · simp [h] at hf
  · simp [h] at hf
  · simp only [h, Option.some.injEq] at hf
    exact hf ▸ candidate_sound hk hlen hsum
  · simp [h] at hf

/-- R23: TRY_PARSE's write of `FR` leaves nothing unsound to deliver. -/
theorem loadFr_frOk (b : Bytes) (s : State) : (s.loadFr (tryParse b)).FrOk := by
  intro hvalid
  unfold State.loadFr at hvalid ⊢
  split at hvalid
  · next f hf => simpa only [hf] using tryParse_frame_sound hf
  · cases hvalid

/-! ## The byte-serial registers (R150) -/

/-- R111, R150: an accumulator that holds SUM8 of what has been read still does after one more byte. -/
theorem add_eq_sum8_concat {acc : Byte} {l : Bytes} (h : acc = sum8 l) (b : Byte) : acc + b = sum8 (l ++ [b]) := by
  rw [sum8_concat, h]

/-- R150: each row of the byte-serial table leads to registers that agree with the phase it enters. -/
theorem serialStep_ok {r : SerialRegs} (h : r.Ok) (b : Byte) : (serialStep r b).1.Ok := by
  obtain ⟨ph, fAddr, fCmd, fLen, cnt, pay, acc⟩ := r
  cases ph with
  | hunt0 =>
    simp only [serialStep]
    split <;> trivial
  | hunt1 =>
    simp only [serialStep]
    split
    · rfl
    · split <;> trivial
  | addr => exact add_eq_sum8_concat h b
  | cmd => exact add_eq_sum8_concat h b
  | len =>
    have hacc : acc + b = sum8 ([hdr0, hdr1, fAddr, fCmd, b] ++ []) := add_eq_sum8_concat h b
    by_cases hb : b = 0#8
    · subst hb
      exact ⟨hacc, rfl⟩
    · have hpos : 0 < b.toNat := Nat.pos_of_ne_zero fun h0 => hb (BitVec.eq_of_toNat_eq h0)
      simp only [serialStep, hb, if_false]
      exact ⟨hacc, rfl, hpos⟩
  | data =>
    obtain ⟨hsum, hcnt, hlt⟩ : acc = sum8 ([hdr0, hdr1, fAddr, fCmd, fLen] ++ pay) ∧ cnt = pay.length ∧
      cnt < fLen.toNat := h
    have hacc : acc + b = sum8 ([hdr0, hdr1, fAddr, fCmd, fLen] ++ (pay ++ [b])) := add_eq_sum8_concat hsum b
    have hlength : cnt + 1 = (pay ++ [b]).length := by simp [hcnt]
    by_cases hlast : cnt + 1 = fLen.toNat
    · simp only [serialStep, hlast, if_true]
      exact ⟨hacc, hlength.symm.trans hlast⟩
    · simp only [serialStep, hlast, if_false]
      exact ⟨hacc, hlength, Nat.lt_of_le_of_ne hlt hlast⟩
  | sum => trivial

/-- R150: a chunk fed to the byte-serial parser leaves its registers in agreement with their phase. -/
theorem serialRun_ok {r : SerialRegs} (h : r.Ok) (chunk : Bytes) : (serialRun r chunk).1.Ok := by
  induction chunk generalizing r with
  | nil => exact h
  | cons b bs ih => exact ih (serialStep_ok h b)

/-! ## What keeps the invariant -/

/-- Only the frame register, `RXBUF` with its capacity, the byte-serial registers and the sequencer's part count. -/
theorem State.Inv.of_seqOk {s t : State} (h : s.Inv) (hseq : t.SeqOk) (hpar : t.par = s.par := by rfl)
    (hrxbuf : t.rxbuf = s.rxbuf := by rfl) (hfr : t.fr = s.fr := by rfl) (hser : t.ser = s.ser := by rfl) :
    t.Inv where
  frOk := by simpa only [State.FrOk, hfr] using h.frOk
  seqOk := hseq
  memOk := by simpa only [hpar, hrxbuf] using h.memOk
  serOk := by simpa only [hser] using h.serOk

/-- R306: an operation that ends leaves no request pending and FC idle. -/
theorem State.Inv.finish {s : State} (h : s.Inv) (r : Reply) : (s.finish r).Inv := h.of_seqOk ⟨rfl, fun _ => rfl⟩

/-- A result on the result port. -/
theorem State.Inv.replied {s : State} (h : s.Inv) (r : Reply) : (s.replied r).Inv := h.of_seqOk h.seqOk

/-- R296: the flush empties `RXBUF` or leaves it. -/
theorem State.Inv.flush {s : State} (h : s.Inv) : s.flush.Inv where
  frOk := by simpa only [State.FrOk, State.flush_fr] using h.frOk
  seqOk := by simpa only [State.SeqOk, State.flush_pend, State.flush_pos, State.flush_thnd] using h.seqOk
  memOk := flush_keeps_wf h.memOk
  serOk := by simpa only [State.flush_ser] using h.serOk

/-- R22, R130: RX_PUSH appends what fits. -/
theorem State.Inv.rxPush {s t : State} (h : s.Inv) {chunk : Bytes} (hp : s.rxPush chunk = some t) : t.Inv := by
  obtain ⟨hw, rfl⟩ := rxPush_eq_some hp
  exact ⟨h.frOk, h.seqOk, hw, h.serOk⟩

/-- R133: TRY_PARSE of any buffer. -/
theorem State.Inv.loadFr {s : State} (h : s.Inv) (b : Bytes) : (s.loadFr (tryParse b)).Inv where
  frOk := loadFr_frOk b s
  seqOk := by simpa only [State.SeqOk, State.loadFr_pend, State.loadFr_pos, State.loadFr_thnd] using h.seqOk
  memOk := by simpa only [State.loadFr_par, State.loadFr_rxbuf] using h.memOk
  serOk := by simpa only [State.loadFr_ser] using h.serOk

/-- R140: PARSE_STEP. -/
theorem State.Inv.parseStep {s : State} (h : s.Inv) : s.parseStep.Inv :=
  have hload := h.loadFr s.rxbuf
  ⟨hload.frOk, hload.seqOk, parseStep_keeps_wf h.memOk, hload.serOk⟩

theorem State.Inv.drainFuel {s : State} (h : s.Inv) (n : Nat) : (drainFuel n s).2.Inv := by
  induction n generalizing s with
  | zero => exact h
  | succ n ih =>
    simp only [Machine.drainFuel]
    split
    · exact ih h.parseStep
    · exact ih h.parseStep
    · exact h.parseStep
    · exact h.parseStep

/-- R141: DRAIN. -/
theorem State.Inv.drain {s : State} (h : s.Inv) : s.drain.2.Inv := h.drainFuel _

/-- R297, R306: SEQR goes from one waiting position to another. -/
theorem State.Inv.goOn {s : State} (h : s.Inv) {p : SeqPos} (hs : s.pos.waiting = true) (hp : p.waiting = true) :
    ({ s with pos := p } : State).Inv := by
  obtain ⟨hpend, hrel⟩ := h.seqOk
  refine h.of_seqOk ⟨by rw [hpend, hs, hp], fun hr => ?_⟩
  rw [hrel hr] at hs
  cases hs

/-- R297, R350: an idle FC that holds its handle starts to send. -/
theorem State.Inv.startSend {s : State} (h : s.Inv) (hi : s.pos = .idle) (hh : s.thnd = .held) {p : SeqPos}
    (hp : p.waiting = false) (txr : TxOperands) (hnd : Handler) :
    ({ s with txr := txr, hnd := hnd, pos := p } : State).Inv := by
  obtain ⟨hpend, -⟩ := h.seqOk
  refine h.of_seqOk ⟨by rw [hpend, hi, hp]; rfl, fun hr => ?_⟩
  rw [hh] at hr
  cases hr

/-! ## Every answer keeps the invariant -/

/-- If the answer is a next state, that state meets the invariant. -/
def MeetsInv (a : Answer) : Prop := ∀ t, a = .next t → t.Inv

@[simp] theorem meetsInv_next {t : State} : MeetsInv (.next t) ↔ t.Inv := by simp [MeetsInv]

@[simp] theorem meetsInv_fault (f : Fault) : MeetsInv (.fault f) := by simp [MeetsInv]

@[simp] theorem meetsInv_refused (r : Refusal) : MeetsInv (.refused r) := by simp [MeetsInv]

theorem whenFree_meetsInv {s : State} {k : State → Answer} (hk : s.thnd = .held → MeetsInv (k s)) :
    MeetsInv (whenFree s k) := by
  obtain ⟨-, h⟩ | ⟨-, -, h⟩ | ⟨hh, -, h⟩ := whenFree_cases s k
  · simp [h]
  · simp [h]
  · exact h ▸ hk hh

/-- R297 S4, S5: `PEND` is set when the write has returned, and SEQR waits from then on. -/
theorem writeRequest_meetsInv {s : State} (hs : s.Inv) (hh : s.thnd = .held) (addr cmd : Byte) (h : Handler)
    (frame : Bytes) : MeetsInv (writeRequest addr cmd h frame s) := by
  have hcalled : (s.callWrite frame).Inv := hs.of_seqOk hs.seqOk
  obtain ⟨-, heq⟩ | ⟨e, -, heq⟩ | ⟨-, heq⟩ := writeRequest_cases addr cmd h frame s
  · rw [heq, meetsInv_next]
    exact hcalled.of_seqOk ⟨rfl, fun hr => by simp [hh] at hr⟩
  · rw [heq, meetsInv_next]
    exact hcalled.finish _
  · simp [heq]

theorem transmit_meetsInv {s : State} (hs : s.Inv) (addr cmd : Byte) (payload : Bytes) (h : Handler) :
    MeetsInv (transmit addr cmd payload h s) := by
  refine whenFree_meetsInv fun hh => ?_
  have hstarted : s.started.Inv := hs.of_seqOk hs.seqOk
  have hasked : s.started.askOpen.Inv := hs.of_seqOk hs.seqOk
  obtain ⟨-, heq⟩ | ⟨-, -, heq⟩ | ⟨-, -, heq⟩ := sendRequest_cases addr cmd payload h s
  · rw [heq, meetsInv_next]
    exact hstarted.finish _
  · rw [heq, meetsInv_next]
    exact hasked.finish _
  · rw [heq]
    exact writeRequest_meetsInv hasked.flush ((State.flush_thnd _).trans hh) _ _ _ _

theorem refuseRequest_meetsInv {s : State} (hs : s.Inv) (e : EncodingError) : MeetsInv (refuseRequest e s) :=
  whenFree_meetsInv fun _ => meetsInv_next.mpr <|
    have hdropped : s.dropTxr.Inv := hs.of_seqOk hs.seqOk
    hdropped.finish _

theorem respond_meetsInv {s : State} (hs : s.Inv) (addr cmd : Byte) (r : Reply) : MeetsInv (respond addr cmd r s) := by
  obtain ⟨p, -, -, h⟩ | ⟨-, h⟩ := respond_cases (rfl : respond addr cmd r s = _)
  · rw [h, meetsInv_next]
    exact hs.finish r
  · rwa [h, meetsInv_next]

/-- R58: a pure function only returns a result, whatever SEQR's position. -/
theorem runPure_meetsInv {s : State} (hs : s.Inv) (op : PureOp) : MeetsInv (runPure op s) := by
  obtain ⟨r, h⟩ | ⟨c, -, -, h⟩ := runPure_cases op s
  · rw [h, meetsInv_next]
    exact hs.replied r
  · simp [h]

/-- R2, R350: an operation that HOST invokes on an idle FC that holds its handle. -/
theorem HeldAnswer.meetsInv {op : HostOp} {s : State} {a : Answer} (h : HeldAnswer s op a) (hs : s.Inv)
    (hi : s.pos = .idle) (hh : s.thnd = .held) : MeetsInv a := by
  cases h with
  | result _ r => exact meetsInv_next.mpr (hs.replied r)
  | illFormed => exact meetsInv_refused _
  | typed | direct => exact meetsInv_next.mpr (hs.startSend hi hh rfl _ _)
  | pushed hp => exact meetsInv_next.mpr ((hs.rxPush hp).replied _)
  | parsed buf => exact meetsInv_next.mpr ((hs.loadFr buf).replied _)
  | parseStepped => exact meetsInv_next.mpr (hs.parseStep.replied _)
  | drained => exact meetsInv_next.mpr (hs.drain.replied _)
  | fed chunk => exact meetsInv_next.mpr ⟨hs.frOk, hs.seqOk, hs.memOk, serialRun_ok hs.serOk chunk⟩
  | released => exact meetsInv_next.mpr (hs.of_seqOk ⟨hs.seqOk.1, fun _ => hi⟩)

/-- R364: an operation on a released handle is refused, so one that runs finds the handle held. -/
theorem runOp_meetsInv {op : HostOp} {s : State} (h : s.thnd = .held → MeetsInv (runHeld op s)) :
    MeetsInv (runOp op s) := by
  unfold runOp
  cases hh : s.thnd with
  | released => simp
  | held => simpa using h hh

theorem idleStep_meetsInv {s : State} (hs : s.Inv) (hi : s.pos = .idle) : MeetsInv (idleStep s) := by
  unfold idleStep
  split
  · exact meetsInv_next.mpr hs
  · next op rest _ =>
    have htaken : ({ s with ops := rest } : State).Inv := hs.of_seqOk hs.seqOk
    exact runOp_meetsInv fun hh => (runHeld_answers op _).meetsInv htaken hi hh

theorem sendStep_meetsInv {s : State} (hs : s.Inv) : MeetsInv (sendStep s) := by
  obtain ⟨addr, cmd, payload, h, heq⟩ | ⟨e, heq⟩ := sendStep_cases s
  · exact heq ▸ transmit_meetsInv hs addr cmd payload h
  · exact heq ▸ refuseRequest_meetsInv hs e

theorem parsePosStep_meetsInv {s : State} (hs : s.Inv) (hw : s.pos.waiting = true) : MeetsInv (parsePosStep s) := by
  unfold parsePosStep
  split
  · next f _ =>
    obtain ⟨addr, cmd, r, heq⟩ := takeFrame_eq_respond f s.parseStep
    exact heq ▸ respond_meetsInv hs.parseStep addr cmd r
  · have hwait : s.parseStep.pos.waiting = true := by simpa using hw
    split
    · exact meetsInv_next.mpr hs.parseStep
    · exact meetsInv_next.mpr hs.parseStep
    · exact meetsInv_next.mpr (hs.parseStep.goOn hwait rfl)
    · exact meetsInv_next.mpr (hs.parseStep.goOn hwait rfl)

theorem deadlineStep_meetsInv {s : State} (hs : s.Inv) (hw : s.pos.waiting = true) : MeetsInv (deadlineStep s) := by
  have hsampled : s.sampleDeadline.Inv := hs.of_seqOk hs.seqOk
  unfold deadlineStep
  split
  · exact meetsInv_next.mpr (hsampled.finish _)
  · exact meetsInv_next.mpr (hsampled.goOn hw rfl)

theorem readStep_meetsInv {s : State} (hs : s.Inv) (hw : s.pos.waiting = true) : MeetsInv (readStep s) := by
  have hasked : s.askOpen.Inv := hs.of_seqOk hs.seqOk
  have hread : s.askOpen.callRead.Inv := hs.of_seqOk hs.seqOk
  unfold readStep
  split
  · simp only
    split
    · exact meetsInv_fault _
    · exact meetsInv_next.mpr (hread.finish _)
    · split
      · next hpush =>
        have hpushed := hread.rxPush hpush
        obtain ⟨-, rfl⟩ := rxPush_eq_some hpush
        exact meetsInv_next.mpr (hpushed.goOn hw rfl)
      · exact meetsInv_next.mpr (hread.finish _)
  · exact meetsInv_next.mpr (hasked.finish _)

theorem moveStep_meetsInv {s : State} (hs : s.Inv) : MeetsInv (moveStep s) := by
  unfold moveStep
  cases hpos : s.pos with
  | idle => exact idleStep_meetsInv hs hpos
  | send => exact sendStep_meetsInv hs
  | sendDirect => exact transmit_meetsInv hs s.txr.addr s.txr.cmd s.txr.payload s.hnd
  | parse => exact parsePosStep_meetsInv hs (by rw [hpos]; rfl)
  | deadline => exact deadlineStep_meetsInv hs (by rw [hpos]; rfl)
  | read => exact readStep_meetsInv hs (by rw [hpos]; rfl)

/-- Settles O48: a step is refused, or takes HOST's entry off the schedule and then runs a pure function or moves SEQR,
each of which keeps the invariant. -/
theorem stepKeepsTheInvariant : Obligations.StepKeepsTheInvariant := by
  intro s t hs hstep
  have hturn : s.takeTurn.Inv := hs.of_seqOk hs.seqOk
  suffices h : MeetsInv (step s) from h t hstep
  cases hw : s.par.wf with
  | false => simp [step_of_not_wf hw]
  | true =>
    obtain ⟨op, -, h⟩ | ⟨-, h⟩ := step_of_wf hw
    · exact h ▸ runOp_meetsInv fun _ => runPure_meetsInv hturn op
    · exact h ▸ moveStep_meetsInv hturn

end Sys2Proof.Machine

/-! # Proofs for spec/20_memory.md: the receive operations and the pure functions (R56, R58, R130 to R150, R351, R364) -/

namespace Sys2Proof.Machine

/-! ## The writes of TRY_PARSE and PARSE_STEP (R133, R140) -/

/-- R23, R133: `FR` holds what a parse has delivered: its frame, or nothing valid. -/
def FrameReg.Shows (fr : FrameReg) (r : ParseResult) : Prop :=
  fr.valid = r.frame.isSome ∧ ∀ f, r.frame = some f → fr.frame = f

/-- R133: the write of `FR` touches nothing but `FR` and the free values. -/
theorem loadFr_eq (r : ParseResult) (s : State) :
    ∃ fr n, s.loadFr r = { s with fr := fr, free := n } ∧ fr.Shows r := by
  unfold State.loadFr
  cases hf : r.frame with
  | some f => exact ⟨⟨true, f⟩, s.free, rfl, by simp [FrameReg.Shows, hf]⟩
  | none => exact ⟨⟨false, Config.freeFrame s.free⟩, s.free + 1, rfl, by simp [FrameReg.Shows, hf]⟩

/-- R140: PARSE_STEP drops `consumed` bytes and writes `FR`. -/
theorem parseStep_eq (s : State) :
    ∃ fr n, s.parseStep = { s with rxbuf := s.rxbuf.drop (tryParse s.rxbuf).consumed, fr := fr, free := n } ∧
      fr.Shows (tryParse s.rxbuf) := by
  obtain ⟨fr, n, hload, hshows⟩ := loadFr_eq (tryParse s.rxbuf) s
  exact ⟨fr, n, by rw [State.parseStep, hload], hshows⟩

/-! ## The turns of DRAIN and of the canonical segmentation (R141, R144) -/

/-- R141: a parse takes a whole candidate, frame or discard, so DRAIN goes round again. -/
def ParseResult.TakesCandidate (r : ParseResult) : Prop := r.outcome = .frameOk ∨ r.outcome = .sumError

/-- R141: a parse finds no whole candidate, so DRAIN returns. -/
def ParseResult.Stops (r : ParseResult) : Prop := r.outcome = .incomplete ∨ r.outcome = .noHeader

/-- R133, R145: a candidate taken has at least six bytes, all of them in the buffer; a parse that stops delivers no
frame. -/
theorem tryParse_takesCandidate_or_stops (b : Bytes) :
    ((tryParse b).TakesCandidate ∧ 6 ≤ (tryParse b).consumed ∧ (tryParse b).consumed ≤ b.length) ∨
    ((tryParse b).Stops ∧ (tryParse b).frame = none) := by
  obtain ⟨-, h⟩ | ⟨_, -, -, h⟩ | ⟨k, -, hlen, -, h⟩ | ⟨k, -, hlen, -, h⟩ := tryParse_cases b
  · exact .inr ⟨.inr (by rw [h]), by rw [h]⟩
  · exact .inr ⟨.inl (by rw [h]), by rw [h]⟩
  · refine .inl ⟨.inl (by rw [h]), ?_⟩
    simp only [h]
    omega
  · refine .inl ⟨.inr (by rw [h]), ?_⟩
    simp only [h]
    omega

/-- R141: a turn of DRAIN that takes a candidate. -/
theorem drainFuel_succ_of_takesCandidate {s : State} (h : (tryParse s.rxbuf).TakesCandidate) (n : Nat) :
    drainFuel (n + 1) s =
      ((tryParse s.rxbuf).events ++ (drainFuel n s.parseStep).1, (drainFuel n s.parseStep).2) := by
  obtain h | h := h <;> simp [drainFuel, h]

/-- R141: the turn of DRAIN that returns. -/
theorem drainFuel_succ_of_stops {s : State} (h : (tryParse s.rxbuf).Stops) (n : Nat) :
    drainFuel (n + 1) s = ([], s.parseStep) := by
  obtain h | h := h <;> simp [drainFuel, h]

/-- R144: one candidate of the segmentation is one TRY_PARSE. -/
theorem segmentFuel_succ_of_takesCandidate {b : Bytes} (h : (tryParse b).TakesCandidate) (n : Nat) :
    segmentFuel (n + 1) b = (tryParse b).events ++ segmentFuel n (b.drop (tryParse b).consumed) := by
  obtain ⟨-, hp⟩ | ⟨_, -, -, hp⟩ | ⟨k, hk, hlen, hsum, hp⟩ | ⟨k, hk, hlen, hsum, hp⟩ := tryParse_cases b
  · simp [ParseResult.TakesCandidate, hp] at h
  · simp [ParseResult.TakesCandidate, hp] at h
  all_goals
    have hwhole : ¬ (b.length < k + 5 ∨ b.length < k + (6 + (byteAt b (k + 4)).toNat)) := by omega
    simp [segmentFuel, hk, hp, hwhole, hsum, ParseResult.events]

/-- R144: the segmentation ends where TRY_PARSE finds no whole candidate. -/
theorem segmentFuel_succ_of_stops {b : Bytes} (h : (tryParse b).Stops) (n : Nat) : segmentFuel (n + 1) b = [] := by
  obtain ⟨hk, -⟩ | ⟨k, hk, hshort, -⟩ | ⟨_, -, -, -, hp⟩ | ⟨_, -, -, -, hp⟩ := tryParse_cases b
  · simp [segmentFuel, hk]
  · have hcut : b.length < k + 5 ∨ b.length < k + (6 + (byteAt b (k + 4)).toNat) := by omega
    simp [segmentFuel, hk, hcut]
  · simp [ParseResult.Stops, hp] at h
  · simp [ParseResult.Stops, hp] at h

/-! ## DRAIN as a whole (R141, R144) -/

/-- R141, R144: DRAIN's events are the segmentation's, turn by turn. -/
theorem drainFuel_events (n : Nat) (s : State) : (drainFuel n s).1 = segmentFuel n s.rxbuf := by
  induction n generalizing s with
  | zero => rfl
  | succ n ih =>
    obtain ⟨h, -⟩ | ⟨h, -⟩ := tryParse_takesCandidate_or_stops s.rxbuf
    · rw [drainFuel_succ_of_takesCandidate h, segmentFuel_succ_of_takesCandidate h, ih, State.parseStep_rxbuf]
    · rw [drainFuel_succ_of_stops h, segmentFuel_succ_of_stops h]

/-- R141: DRAIN touches nothing but `RXBUF`, `FR` and the free values. -/
theorem drainFuel_eq (n : Nat) (s : State) :
    (drainFuel n s).2 = { s with
      rxbuf := (drainFuel n s).2.rxbuf, fr := (drainFuel n s).2.fr, free := (drainFuel n s).2.free } := by
  suffices h : ∃ b fr k, (drainFuel n s).2 = { s with rxbuf := b, fr := fr, free := k } by
    obtain ⟨b, fr, k, h⟩ := h
    rw [h]
  induction n generalizing s with
  | zero => exact ⟨_, _, _, rfl⟩
  | succ n ih =>
    obtain ⟨fr, k, hstep, -⟩ := parseStep_eq s
    obtain ⟨h, -⟩ | ⟨h, -⟩ := tryParse_takesCandidate_or_stops s.rxbuf
    · obtain ⟨b', fr', k', hrest⟩ := ih s.parseStep
      exact ⟨b', fr', k', by rw [drainFuel_succ_of_takesCandidate h, hrest, hstep]⟩
    · exact ⟨_, fr, k, by rw [drainFuel_succ_of_stops h, hstep]⟩

/-- R133, R141: the turn that returns is reached, since each turn before it shortens `RXBUF`; it leaves `FR` invalid. -/
theorem drainFuel_fr_valid {n : Nat} {s : State} (hn : s.rxbuf.length < n) : (drainFuel n s).2.fr.valid = false := by
  induction n generalizing s with
  | zero => omega
  | succ n ih =>
    obtain ⟨h, hsix, hle⟩ | ⟨h, hnone⟩ := tryParse_takesCandidate_or_stops s.rxbuf
    · have hshorter : s.parseStep.rxbuf.length < n := by
        rw [State.parseStep_rxbuf, List.length_drop]
        omega
      rw [drainFuel_succ_of_takesCandidate h]
      exact ih hshorter
    · obtain ⟨fr, k, hstep, hvalid, -⟩ := parseStep_eq s
      rw [drainFuel_succ_of_stops h, hstep]
      simpa [hnone] using hvalid

theorem drain_events (s : State) : s.drain.1 = segment s.rxbuf := drainFuel_events _ s

theorem drain_eq (s : State) :
    s.drain.2 = { s with rxbuf := s.drain.2.rxbuf, fr := s.drain.2.fr, free := s.drain.2.free } := drainFuel_eq _ s

theorem drain_fr_valid (s : State) : s.drain.2.fr.valid = false := drainFuel_fr_valid (Nat.lt_succ_self _)

/-! ## What the receive operations answer -/

/-- R130, R331: a chunk that passes the capacity is refused whole. -/
theorem rxPush_of_overflow {s : State} {chunk : Bytes} {cap : Nat} (hcap : s.par.rxbufCap = some cap)
    (hlt : cap < s.rxbuf.length + chunk.length) : s.rxPush chunk = none := by
  simpa [rxPush_eq_none, Memory.wf, hcap] using hlt

theorem opRxPush_of_some {s t : State} {chunk : Bytes} (h : s.rxPush chunk = some t) :
    opRxPush chunk s = .next (t.replied (.ok .unit)) := by
  simp only [opRxPush, h]
  rfl

theorem opRxPush_of_none {s : State} {chunk : Bytes} (h : s.rxPush chunk = none) :
    opRxPush chunk s = .next (s.replied (.hard .rxOverflow)) := by
  simp only [opRxPush, h]
  rfl

/-- R133: TRY_PARSE on any buffer writes `FR` alone. -/
theorem opTryParse_eq (buf : Bytes) (s : State) :
    ∃ fr n, opTryParse buf s = .next (({ s with fr := fr, free := n } : State).replied (.ok (.parsed (tryParse buf)))) ∧
      fr.Shows (tryParse buf) := by
  obtain ⟨fr, n, hload, hshows⟩ := loadFr_eq (tryParse buf) s
  refine ⟨fr, n, ?_, hshows⟩
  rw [opTryParse, hload]
  rfl

/-- R140: PARSE_STEP returns what TRY_PARSE of `RXBUF` returns. -/
theorem opParseStep_eq (s : State) :
    ∃ fr n, opParseStep s =
        .next (({ s with rxbuf := s.rxbuf.drop (tryParse s.rxbuf).consumed, fr := fr, free := n } : State).replied
          (.ok (.parsed (tryParse s.rxbuf)))) ∧
      fr.Shows (tryParse s.rxbuf) := by
  obtain ⟨fr, n, hstep, hshows⟩ := parseStep_eq s
  refine ⟨fr, n, ?_, hshows⟩
  rw [opParseStep, hstep]
  rfl

/-- R141, R144: DRAIN returns the canonical segmentation of `RXBUF`. -/
theorem opDrain_eq (s : State) :
    opDrain s =
      .next (({ s with rxbuf := s.drain.2.rxbuf, fr := s.drain.2.fr, free := s.drain.2.free } : State).replied
        (.ok (.events (segment s.rxbuf)))) := by
  rw [opDrain, drain_events, ← drain_eq]
  rfl

/-- Settles O44: an invoked operation runs on the state with the call taken, and each receive operation answers as its
own equation says. -/
theorem receiveOperations : Obligations.ReceiveOperations := by
  intro s₀ s
  have hrun : ∀ {op}, s₀.Invokes op s → step s₀ = runHeld op s := fun h => (step_of_invokes h).1
  refine ⟨fun chunk h hfits => ?push, fun chunk cap h hcap hlt => ?overflow, fun h => ?tryParse, fun h => ?parseStep,
    fun buf h => ?tryParseOf, fun h => ⟨?drain, drain_fr_valid s⟩, fun chunk h => ?feed, fun h => ?release⟩
  all_goals rw [hrun h]
  case push => exact opRxPush_of_some (rxPush_of_fits hfits)
  case overflow => exact opRxPush_of_none (rxPush_of_overflow hcap hlt)
  case tryParse => exact opTryParse_eq s.rxbuf s
  case parseStep => exact opParseStep_eq s
  case tryParseOf => exact opTryParse_eq buf s
  case drain => exact opDrain_eq s
  case feed => rfl
  case release => rfl

/-! ## What the pure functions answer (R58, R324, R326) -/

section
variable {s : State}

/-- R186: STATUS_CHECK tells an empty payload, the success status and any other status apart. -/
theorem statusReplyIs_statusCheck (par : Params) (data : Bytes) : StatusReplyIs par data (statusCheck par data) := by
  cases data with
  | nil => exact .inl ⟨rfl, rfl⟩
  | cons b rest =>
    by_cases hb : b = par.statusOk
    · exact .inr (.inl ⟨rest, by rw [hb], by simp [statusCheck, hb]⟩)
    · exact .inr (.inr ⟨b, rest, rfl, hb, by simp [statusCheck, hb]⟩)

theorem opCfgDecode_of_some {data : Bytes} {c : DeviceConfig} (h : cfgDecode s.par data = some c) :
    opCfgDecode data s = .next (s.replied (.ok (.config c))) := by
  simp only [opCfgDecode, h]
  rfl

theorem opCfgDecode_of_none {data : Bytes} (h : cfgDecode s.par data = none) :
    opCfgDecode data s = .next (s.replied (.decodeErr .badLength)) := by
  simp only [opCfgDecode, h]
  rfl

theorem opCfgEncode_of_wellFormed {c : DeviceConfig} (h : cfgWellFormed s.par c = true) :
    opCfgEncode c s = .next (s.replied (.ok (.bytes (cfgEncode s.par c)))) := by
  rw [opCfgEncode, if_pos h]
  rfl

/-- R208, U12: a record that is not well-formed is outside CFG_ENCODE's domain. -/
theorem opCfgEncode_of_illFormed {c : DeviceConfig} (h : cfgWellFormed s.par c = false) :
    opCfgEncode c s = .refused .illFormedConfig := by
  simp only [opCfgEncode, h, Bool.false_eq_true, if_false]

theorem opCfgSet_of_some {c c' : DeviceConfig} {a : CfgAssign} (h : cfgSet s.par c a = some c') :
    opCfgSet c a s = .next (s.replied (.ok (.config c'))) := by
  simp only [opCfgSet, h]
  rfl

theorem opCfgSet_of_none {c : DeviceConfig} {a : CfgAssign} (h : cfgSet s.par c a = none) :
    opCfgSet c a s = .next (s.replied (.hard (.encoding .outOfRange))) := by
  simp only [opCfgSet, h]
  rfl

theorem opStrEncode_of_inr {slot : Nat} {text b : Bytes} (h : strEncode s.par slot text = .inr b) :
    opStrEncode slot text s = .next (s.replied (.ok (.bytes b))) := by
  simp only [opStrEncode, h]
  rfl

theorem opStrEncode_of_inl {slot : Nat} {text : Bytes} {e : EncodingError} (h : strEncode s.par slot text = .inl e) :
    opStrEncode slot text s = .next (s.replied (.hard (.encoding e))) := by
  simp only [opStrEncode, h]
  rfl

theorem opStrDecode_of_inr {data text : Bytes} {slot : Nat} (h : strDecode data = .inr (slot, text)) :
    opStrDecode data s = .next (s.replied (.ok (.slotText slot text))) := by
  simp only [opStrDecode, h]
  rfl

theorem opStrDecode_of_inl {data : Bytes} {e : DecodeError} (h : strDecode data = .inl e) :
    opStrDecode data s = .next (s.replied (.decodeErr e)) := by
  simp only [opStrDecode, h]
  rfl

theorem opInfoDecode_of_some {data : Bytes} {d : DeviceInfo} (h : infoDecode s.par data = some d) :
    opInfoDecode data s = .next (s.replied (.ok (.info d))) := by
  simp only [opInfoDecode, h]
  rfl

theorem opInfoDecode_of_none {data : Bytes} (h : infoDecode s.par data = none) :
    opInfoDecode data s = .next (s.replied (.decodeErr .badLength)) := by
  simp only [opInfoDecode, h]
  rfl

/-- A packer with a payload goes on with it. -/
theorem packed_of_some {p : Option Bytes} {b : Bytes} (h : p = some b) (e : EncodingError)
    (k : Bytes → State → Answer) : packed p e k s = k b s := by
  rw [h, packed]

/-- R324: a packer without a payload raises its error, whatever would have come next. -/
theorem packed_of_none {p : Option Bytes} (h : p = none) (e : EncodingError) (k : Bytes → State → Answer) :
    packed p e k s = .next (s.replied (.hard (.encoding e))) := by
  rw [h]
  rfl

end

/-- Settles O43: a pure function that HOST calls runs on the state with the call taken, and returns its value or its error
there, at any position. -/
theorem pureOperationsOnlyReply : Obligations.PureOperationsOnlyReply := by
  intro s₀ s
  have hrun : ∀ {op a}, s₀.Asks op s → runPure op s = a → step s₀ = a := fun h ha => (step_of_asks h).trans ha
  exact ⟨fun _ h => hrun h rfl,
    fun _ h => hrun h rfl,
    fun _ h => hrun h rfl,
    fun _ _ h => hrun h rfl,
    fun data h => ⟨_, statusReplyIs_statusCheck s.par data, rfl, hrun h rfl⟩,
    fun _ h => ⟨fun _ hc => hrun h (opCfgDecode_of_some hc), fun hc => hrun h (opCfgDecode_of_none hc)⟩,
    fun _ h => ⟨fun hc => hrun h (opCfgEncode_of_wellFormed hc), fun hc => hrun h (opCfgEncode_of_illFormed hc)⟩,
    fun _ _ h => hrun h rfl,
    fun _ _ h => ⟨fun _ hc => hrun h (opCfgSet_of_some hc), fun hc => hrun h (opCfgSet_of_none hc)⟩,
    fun _ _ h => hrun h rfl,
    fun _ h => hrun h rfl,
    fun _ _ h => ⟨fun _ hb => hrun h (opStrEncode_of_inr hb), fun _ he => hrun h (opStrEncode_of_inl he)⟩,
    fun _ h => ⟨fun _ _ hd => hrun h (opStrDecode_of_inr hd), fun _ he => hrun h (opStrDecode_of_inl he)⟩,
    fun _ h => ⟨fun _ hd => hrun h (opInfoDecode_of_some hd), fun hd => hrun h (opInfoDecode_of_none hd)⟩,
    fun _ h => ⟨fun _ hb => hrun h (packed_of_some hb _ _), fun hb => hrun h (packed_of_none hb _ _)⟩,
    fun _ h => ⟨fun _ hb => hrun h (packed_of_some hb _ _), fun hb => hrun h (packed_of_none hb _ _)⟩,
    fun _ h => ⟨fun _ hb => hrun h (packed_of_some hb _ _), fun hb => hrun h (packed_of_none hb _ _)⟩⟩

end Sys2Proof.Machine

/-! # Proofs for spec/30_encoding.md: frames, the command map and the opcode table (R80, R88, R91 to R94, R133) -/

namespace Sys2Proof.Machine

open Sys2Proof.Laws

/-! ## TRY_PARSE on a frame written out (R80, R133) -/

/-- R85: LEN gives back the number of DATA bytes. -/
theorem toNat_len_of_le {payload : Bytes} (hp : payload.length ≤ maxPayload) :
    (BitVec.ofNat 8 payload.length).toNat = payload.length := by
  rw [BitVec.toNat_ofNat]
  exact Nat.mod_eq_of_lt (Nat.lt_succ_of_le hp)

/-- R80: the five bytes before DATA, and DATA. -/
theorem length_framePrefix (addr cmd : Byte) (payload : Bytes) :
    (framePrefix addr cmd payload).length = 5 + payload.length := by
  simp only [framePrefix, List.length_append, List.length_cons, List.length_nil]

/-- R131, R133: a whole candidate at the leftmost header is a frame's bytes before SUM, one more byte, and the rest. -/
theorem drop_eq_framePrefix_of_complete {b : Bytes} {h : Nat} (hh : findHeader b = some h)
    (hlen : 6 + (byteAt b (h + 4)).toNat ≤ b.length - h) :
    ∃ addr cmd payload sum rest, payload.length ≤ maxPayload ∧
      b.drop h = framePrefix addr cmd payload ++ sum :: rest := by
  obtain ⟨tail, hdrop⟩ := drop_of_findHeader hh
  have htail : b.length - h = tail.length + 2 := by simpa using congrArg List.length hdrop
  obtain ⟨addr, cmd, len, tail, rfl⟩ : ∃ addr cmd len rest, tail = addr :: cmd :: len :: rest := by
    match tail with
    | addr :: cmd :: len :: rest => exact ⟨addr, cmd, len, rest, rfl⟩
    | [] | [_] | [_, _] => simp at htail; omega
  have hl : byteAt b (h + 4) = len := by rw [byteAt_add, hdrop]; rfl
  have hroom : len.toNat < tail.length := by
    simp only [hl, htail, List.length_cons] at hlen
    omega
  have hpayload : (tail.take len.toNat).length = len.toNat := by
    simpa using hroom.le
  refine ⟨addr, cmd, tail.take len.toNat, tail[len.toNat], tail.drop (len.toNat + 1), ?_, ?_⟩
  · rw [hpayload]
    exact Nat.le_of_lt_succ len.isLt
  · rw [hdrop, framePrefix, hpayload, List.append_assoc, List.getElem_cons_drop, List.take_append_drop]
    simp

/-- R133: what TRY_PARSE answers where a frame's bytes before SUM and one more byte stand at the leftmost header. -/
theorem tryParse_of_drop {b rest payload : Bytes} {h : Nat} {addr cmd sum : Byte} (hh : findHeader b = some h)
    (hp : payload.length ≤ maxPayload) (hdrop : b.drop h = framePrefix addr cmd payload ++ sum :: rest) :
    tryParse b =
      if sum8 (framePrefix addr cmd payload) = sum then
        ⟨some ⟨hdr0 ++ hdr1, addr, cmd, BitVec.ofNat 8 payload.length, payload, sum⟩, h + (6 + payload.length), .frameOk⟩
      else ⟨none, h + (6 + payload.length), .sumError⟩ := by
  have hlength : b.length - h = 6 + payload.length + rest.length := by
    have := congrArg List.length hdrop
    simp only [List.length_drop, List.length_append, length_framePrefix, List.length_cons] at this
    omega
  have haddr : byteAt b (h + 2) = addr := by rw [byteAt_add, hdrop]; rfl
  have hcmd : byteAt b (h + 3) = cmd := by rw [byteAt_add, hdrop]; rfl
  have hlen : byteAt b (h + 4) = BitVec.ofNat 8 payload.length := by rw [byteAt_add, hdrop]; rfl
  have hend : h + (6 + payload.length) - 1 = h + (5 + payload.length) := by omega
  have hsum : byteAt b (h + (5 + payload.length)) = sum := by
    rw [byteAt_add, hdrop, ← length_framePrefix addr cmd payload]
    simp [byteAt, List.getD_eq_getElem?_getD]
  have hbody : slice b h (h + (5 + payload.length)) = framePrefix addr cmd payload := by
    rw [← length_framePrefix addr cmd payload]
    exact (slice_add b h 0 _).trans (by simp [slice, hdrop])
  have hpayload : slice b (h + 5) (h + (5 + payload.length)) = payload := by
    rw [slice_add, hdrop, ← length_framePrefix addr cmd payload]
    simp [slice, framePrefix]
  simp only [tryParse, hh, candidate, haddr, hcmd, hlen, toNat_len_of_le hp, Nat.add_assoc, hend, hsum, hbody, hpayload]
  rw [if_neg (by omega), if_neg (by omega)]

/-- R80, R133: a frame at the leftmost header is delivered. -/
theorem tryParse_of_frameBytes {b rest payload : Bytes} {h : Nat} {addr cmd : Byte} (hh : findHeader b = some h)
    (hp : payload.length ≤ maxPayload) (hdrop : b.drop h = frameBytes addr cmd payload ++ rest) :
    tryParse b =
      ⟨some ⟨hdr0 ++ hdr1, addr, cmd, BitVec.ofNat 8 payload.length, payload, sum8 (framePrefix addr cmd payload)⟩,
        h + (6 + payload.length), .frameOk⟩ := by
  rw [tryParse_of_drop hh hp (by rw [hdrop, frameBytes, List.append_assoc]; rfl), if_pos rfl]

/-- R80, R133: a frame that TRY_PARSE delivers stands at the leftmost header, with the bytes left behind it. -/
theorem drop_eq_frameBytes_of_tryParse {b : Bytes} {f : Frame} (hf : (tryParse b).frame = some f) :
    f.payload.length ≤ maxPayload ∧ ∃ h, findHeader b = some h ∧
      b.drop h = frameBytes f.addr f.cmd f.payload ++ b.drop (tryParse b).consumed := by
  obtain ⟨-, h⟩ | ⟨_, -, -, h⟩ | ⟨k, hk, hlen, -, h⟩ | ⟨_, -, -, -, h⟩ := tryParse_cases b
  · simp [h] at hf
  · simp [h] at hf
  · obtain ⟨addr, cmd, payload, sum, rest, hp, hdrop⟩ := drop_eq_framePrefix_of_complete hk hlen
    have hparse := tryParse_of_drop hk hp hdrop
    split at hparse
    · next hsum =>
      obtain rfl : _ = f := by simpa [hparse] using hf
      refine ⟨hp, k, hk, ?_⟩
      have hrest : b.drop (tryParse b).consumed = rest := by
        rw [hparse, ← List.drop_drop, hdrop,
          show 6 + payload.length = (framePrefix addr cmd payload).length + 1 by rw [length_framePrefix]; omega,
          ← List.drop_drop, List.drop_left]
        rfl
      simp only [hrest, hdrop, frameBytes, hsum, List.append_assoc, List.singleton_append]
    · simp [hparse] at hf
  · simp [h] at hf

/-- R131: a frame's first bytes are a header. -/
theorem findHeader_frameBytes_append (addr cmd : Byte) (payload rest : Bytes) :
    findHeader (frameBytes addr cmd payload ++ rest) = some 0 := by
  simp [frameBytes, framePrefix, findHeader]

end Sys2Proof.Machine

namespace Sys2Proof

open Sys2Proof.Machine Sys2Proof.Laws

/-! ## The command map (R91 to R93) -/

/-- R93: a request row found carries the request code and the fields it was given. -/
theorem fields_of_requestInstr {par : Params} {k : Command} {addr : Byte} {data : Bytes} {i : Instr}
    (hd : data.length ≤ maxPayload) (h : requestInstr k addr data = some i) :
    i.wellFormed par = true ∧ i.addr = addr ∧ instrCmd par i = par.code k ∧ i.data = data := by
  cases k with
  | getInfo | getParaCfg | setDefaultCfg | reset =>
    obtain ⟨rfl, hi⟩ := Option.ite_none_right_eq_some.mp h
    obtain rfl := Option.some.inj hi
    exact ⟨rfl, rfl, rfl, rfl⟩
  | sendKbGeneral | sendMsAbs | sendMsRel | setParaCfg | getUsbString | setUsbString =>
    obtain rfl := Option.some.inj h
    exact ⟨decide_eq_true hd, rfl, rfl, rfl⟩

/-- R93: a response row found carries the response code and the fields it was given. -/
theorem fields_of_responseInstr {par : Params} {k : Command} {addr : Byte} {data : Bytes} {i : Instr}
    (hd : data.length ≤ maxPayload) (h : responseInstr par k addr data = some i) :
    i.wellFormed par = true ∧ i.addr = addr ∧ instrCmd par i = respCode (par.code k) ∧ i.data = data := by
  cases k with
  | getInfo =>
    obtain ⟨hsize, hi⟩ := Option.ite_none_right_eq_some.mp h
    obtain rfl := Option.some.inj hi
    exact ⟨beq_iff_eq.mpr hsize, rfl, rfl, rfl⟩
  | sendKbGeneral | sendMsAbs | sendMsRel | getParaCfg | setParaCfg | getUsbString | setUsbString | setDefaultCfg
  | reset =>
    obtain rfl := Option.some.inj h
    exact ⟨decide_eq_true hd, rfl, rfl, rfl⟩

/-- R91: a code looked up among the requests is the request code of what it finds. -/
theorem code_eq_of_requestOf {par : Params} {c : Byte} {k : Command} (h : requestOf par c = some k) : c = par.code k :=
  (beq_iff_eq.mp (List.find?_some (p := fun k => par.code k == c) h)).symm

/-- R92: a code looked up among the responses is the response code of what it finds. -/
theorem respCode_eq_of_responseOf {par : Params} {c : Byte} {k : Command} (h : responseOf par c = some k) :
    c = respCode (par.code k) :=
  (beq_iff_eq.mp (List.find?_some (p := fun k => respCode (par.code k) == c) h)).symm

/-- R91, R92: an instruction is found by the request code or by the response code of a command. -/
theorem decodeFields_eq_some_iff {par : Params} (hc : par.codesOk = true) (addr cmd : Byte) (data : Bytes) (i : Instr) :
    decodeFields par addr cmd data = some i ↔
      ∃ k, (cmd = par.code k ∧ requestInstr k addr data = some i) ∨
        (cmd = respCode (par.code k) ∧ responseInstr par k addr data = some i) := by
  constructor
  · intro h
    unfold decodeFields at h
    split at h
    · next k hk => exact ⟨k, .inl ⟨code_eq_of_requestOf hk, h⟩⟩
    · split at h
      · next k hk => exact ⟨k, .inr ⟨respCode_eq_of_responseOf hk, h⟩⟩
      · cases h
  · rintro ⟨k, ⟨rfl, h⟩ | ⟨rfl, h⟩⟩
    · rw [decodeFields_request hc, h]
    · rw [decodeFields_response hc, h]

/-- R93: every instruction's own fields look it up. -/
theorem decodesBack (i : Instr) : DecodesBack.Statement i := by
  cases i with
  | reqGetInfo a => exact DecodesBack.reqGetInfo a
  | rspGetInfo a d => exact DecodesBack.rspGetInfo a d
  | reqSendKbGeneral a d => exact DecodesBack.reqSendKbGeneral a d
  | rspSendKbGeneral a d => exact DecodesBack.rspSendKbGeneral a d
  | reqSendMsAbs a d => exact DecodesBack.reqSendMsAbs a d
  | rspSendMsAbs a d => exact DecodesBack.rspSendMsAbs a d
  | reqSendMsRel a d => exact DecodesBack.reqSendMsRel a d
  | rspSendMsRel a d => exact DecodesBack.rspSendMsRel a d
  | reqGetParaCfg a => exact DecodesBack.reqGetParaCfg a
  | rspGetParaCfg a d => exact DecodesBack.rspGetParaCfg a d
  | reqSetParaCfg a d => exact DecodesBack.reqSetParaCfg a d
  | rspSetParaCfg a d => exact DecodesBack.rspSetParaCfg a d
  | reqGetUsbString a d => exact DecodesBack.reqGetUsbString a d
  | rspGetUsbString a d => exact DecodesBack.rspGetUsbString a d
  | reqSetUsbString a d => exact DecodesBack.reqSetUsbString a d
  | rspSetUsbString a d => exact DecodesBack.rspSetUsbString a d
  | reqSetDefaultCfg a => exact DecodesBack.reqSetDefaultCfg a
  | rspSetDefaultCfg a d => exact DecodesBack.rspSetDefaultCfg a d
  | reqReset a => exact DecodesBack.reqReset a
  | rspReset a d => exact DecodesBack.rspReset a d

/-- R80, R93: the fields of a payload's size look up exactly the well-formed instruction that has them. -/
theorem decodeFields_eq_some_iff_fields {par : Params} (hc : par.codesOk = true) {addr cmd : Byte} {data : Bytes}
    (hd : data.length ≤ maxPayload) (i : Instr) :
    decodeFields par addr cmd data = some i ↔
      i.wellFormed par = true ∧ i.addr = addr ∧ instrCmd par i = cmd ∧ i.data = data := by
  constructor
  · intro h
    obtain ⟨k, ⟨rfl, hk⟩ | ⟨rfl, hk⟩⟩ := (decodeFields_eq_some_iff hc addr cmd data i).mp h
    · exact fields_of_requestInstr hd hk
    · exact fields_of_responseInstr hd hk
  · rintro ⟨hw, rfl, rfl, rfl⟩
    exact decodesBack i par hc hw

/-- R80, R260: the DATA of a well-formed instruction fits a frame. -/
theorem Instr.data_length_le {par : Params} (hi : par.infoOk = true) {i : Instr} (hw : i.wellFormed par = true) :
    i.data.length ≤ maxPayload := by
  cases i with
  | reqGetInfo | reqGetParaCfg | reqSetDefaultCfg | reqReset => exact Nat.zero_le _
  | rspGetInfo a d =>
    obtain ⟨-, hmax⟩ := Params.infoSize_bounds_of_infoOk hi
    exact (beq_iff_eq.mp hw).trans_le hmax
  | reqSendKbGeneral | rspSendKbGeneral | reqSendMsAbs | rspSendMsAbs | reqSendMsRel | rspSendMsRel | rspGetParaCfg
  | reqSetParaCfg | rspSetParaCfg | reqGetUsbString | rspGetUsbString | reqSetUsbString | rspSetUsbString
  | rspSetDefaultCfg | rspReset => exact of_decide_eq_true hw

/-! ## Decoding bytes (R80, R93, R94) -/

/-- R93, R97: what is refused by name is no instruction. -/
theorem refuseFrame_ne_instr (par : Params) (f : Frame) (i : Instr) (rest : Bytes) :
    refuseFrame par f ≠ .instr i rest := by
  unfold refuseFrame
  split <;> nofun

/-- R94: decoding finds an instruction exactly where TRY_PARSE delivers a frame of a row. -/
theorem decode_eq_instr_iff_tryParse (par : Params) (b rest : Bytes) (i : Instr) :
    decode par b = .instr i rest ↔
      ∃ f, (tryParse b).frame = some f ∧ decodeFields par f.addr f.cmd f.payload = some i ∧
        b.drop (tryParse b).consumed = rest := by
  simp only [decode, decodeFrame]
  cases hf : (tryParse b).frame with
  | some f =>
    cases hi : decodeFields par f.addr f.cmd f.payload with
    | some j => simp [hi]
    | none => simp [hi, refuseFrame_ne_instr]
  | none => cases (tryParse b).outcome <;> simp

/-- R80, R93, R134: bytes decode to an instruction exactly when they are noise, its frame at the leftmost header and the
remainder. -/
theorem decode_eq_instr_iff {par : Params} (hw : par.wf = true) (b rest : Bytes) (i : Instr) :
    decode par b = .instr i rest ↔
      i.wellFormed par = true ∧ ∃ noise, b = noise ++ encode par i ++ rest ∧ findHeader b = some noise.length := by
  obtain ⟨-, hcodes, hinfo, -⟩ := par.wf_iff.mp hw
  rw [decode_eq_instr_iff_tryParse]
  constructor
  · rintro ⟨f, hf, hi, rfl⟩
    obtain ⟨hp, h, hh, hdrop⟩ := drop_eq_frameBytes_of_tryParse hf
    obtain ⟨hwf, haddr, hcmd, hdata⟩ := (decodeFields_eq_some_iff_fields hcodes hp i).mp hi
    have hle : h ≤ b.length := by
      by_contra hlt
      simp [List.drop_eq_nil_of_le (by omega : b.length ≤ h), frameBytes] at hdrop
    refine ⟨hwf, b.take h, ?_, by rw [hh, List.length_take_of_le hle]⟩
    rw [encode, haddr, hcmd, hdata, List.append_assoc, ← hdrop, List.take_append_drop]
  · rintro ⟨hwf, noise, hb, hh⟩
    have hp := i.data_length_le hinfo hwf
    have hdrop : b.drop noise.length = frameBytes i.addr (instrCmd par i) i.data ++ rest := by
      rw [hb, List.append_assoc, List.drop_left, encode]
    have hrest : b.drop (noise.length + (6 + i.data.length)) = rest := by
      rw [← List.drop_drop, hdrop, List.drop_left' (by simp [frameBytes, length_framePrefix]; omega)]
    rw [tryParse_of_frameBytes hh hp hdrop]
    exact ⟨_, rfl, decodesBack i par hcodes hwf, hrest⟩

/-- Settles O2: the frame begins with a header, so it is the leftmost candidate, with no noise before it. -/
theorem decodeOfEncodeGivesTheInstruction : Obligations.DecodeOfEncodeGivesTheInstruction :=
  fun _ i rest hw hi =>
    (decode_eq_instr_iff hw _ rest i).mpr ⟨hi, [], rfl, findHeader_frameBytes_append _ _ _ _⟩

/-- Settles O3: one direction of `decode_eq_instr_iff`. -/
theorem decodedBytesHoldTheEncoding : Obligations.DecodedBytesHoldTheEncoding :=
  fun _ b rest i hw h => (decode_eq_instr_iff hw b rest i).mp h

/-! ## The opcode table (R88, R91 to R93) -/

/-- R88: two rows disagree in a bit that both their masks fix. -/
def OpcodeRow.Clash (r r' : OpcodeRow) : Prop := r.matchW &&& r'.maskW ≠ r'.matchW &&& r.maskW

/-- R88: no word belongs to two rows that clash. -/
theorem OpcodeRow.Clash.not_has_both {r r' : OpcodeRow} (hc : r.Clash r') (w : BitVec 40) :
    ¬ (r.has w = true ∧ r'.has w = true) := by
  simp only [OpcodeRow.has, beq_iff_eq]
  rintro ⟨h, h'⟩
  exact hc (by rw [← h, ← h', BitVec.and_assoc, BitVec.and_assoc, BitVec.and_comm r.maskW])

/-- R93: any two rows of the opcode table clash. -/
theorem opcodeTable_pairwise_clash : opcodeTable.Pairwise OpcodeRow.Clash := by
  unfold OpcodeRow.Clash
  decide

/-- Settles O4: of any two rows to which a word belonged, the masks would fix the same bits alike. -/
theorem opcodeRowsDoNotOverlap : Obligations.OpcodeRowsDoNotOverlap := by
  intro w
  have hpair := opcodeTable_pairwise_clash.filter fun r => r.has w
  have hhas : ∀ r ∈ opcodeTable.filter fun r => r.has w, r.has w = true := fun r hr => (List.mem_filter.mp hr).2
  generalize opcodeTable.filter (fun r => r.has w) = rows at hpair hhas ⊢
  match rows with
  | [] | [_] => simp
  | r :: r' :: _ =>
    have hclash : r.Clash r' := List.rel_of_pairwise_cons hpair (by simp)
    exact absurd ⟨hhas r (by simp), hhas r' (by simp)⟩ (hclash.not_has_both w)

/-! ## The rows as CMD and LEN (R88, R93) -/

/-- R88: the mask that leaves ADDR free, fixes CMD, and treats LEN as given. -/
def rowMask (lenMask : Byte) : BitVec 40 := 0xFF#8 ++ 0xFF#8 ++ 0x00#8 ++ 0xFF#8 ++ lenMask

/-- R88, R93: the row of the frames with this CMD and, where the row fixes LEN, this LEN; ADDR is free. -/
def frameRow (mnemonic : String) (cmd : Byte) (len : Option Byte) : OpcodeRow :=
  match len with
  | some n => ⟨mnemonic, prefixWord 0x00 cmd n, rowMask 0xFF⟩
  | none => ⟨mnemonic, prefixWord 0x00 cmd 0x00, rowMask 0x00⟩

/-- Two concatenations are equal iff their parts are. -/
theorem bitVec_append_inj {m n : Nat} {x x' : BitVec m} {y y' : BitVec n} : x ++ y = x' ++ y' ↔ x = x' ∧ y = y' := by
  refine ⟨fun h => ?_, fun ⟨hx, hy⟩ => by rw [hx, hy]⟩
  have hx : x = x' := by
    simpa only [BitVec.extractLsb'_append_eq_left] using congrArg (BitVec.extractLsb' n m) h
  subst hx
  exact ⟨rfl, (BitVec.append_right_inj x).mp h⟩

/-- R88: two words `W` are equal iff their fields are. -/
theorem prefixWord_inj {addr addr' cmd cmd' len len' : Byte} :
    prefixWord addr cmd len = prefixWord addr' cmd' len' ↔ addr = addr' ∧ cmd = cmd' ∧ len = len' := by
  refine bitVec_append_inj.trans ?_
  simp only [bitVec_append_inj, true_and, and_assoc]

/-- R88: what a row's mask keeps of a word `W`. -/
theorem prefixWord_and_rowMask (addr cmd len m : Byte) :
    prefixWord addr cmd len &&& rowMask m = prefixWord 0x00 cmd (len &&& m) := by
  have hcmd : cmd &&& 0xFF#8 = cmd := BitVec.and_allOnes
  refine BitVec.and_append.trans ?_
  rw [BitVec.and_append, BitVec.and_append, BitVec.and_append, hcmd, BitVec.and_zero]
  rfl

/-- R88: a word `W` belongs to such a row iff its CMD is the row's and its LEN is the one that the row fixes. -/
theorem frameRow_has_iff (mnemonic : String) (c : Byte) (fixed : Option Byte) (addr cmd len : Byte) :
    (frameRow mnemonic c fixed).has (prefixWord addr cmd len) = true ↔ cmd = c ∧ ∀ n ∈ fixed, len = n := by
  cases fixed with
  | some n =>
    have hlen : len &&& 0xFF#8 = len := BitVec.and_allOnes
    simp [frameRow, OpcodeRow.has, prefixWord_and_rowMask, prefixWord_inj, hlen]
  | none => simp [frameRow, OpcodeRow.has, prefixWord_and_rowMask, prefixWord_inj]

/-- R93: the LEN that a command's request row fixes. -/
def requestLen : Command → Option Byte
  | .getInfo | .getParaCfg | .setDefaultCfg | .reset => some 0x00
  | .sendKbGeneral | .sendMsAbs | .sendMsRel | .setParaCfg | .getUsbString | .setUsbString => none

/-- R93, R260: the LEN that a command's response row fixes: `INFO_SIZE` in the get-info response. -/
def responseLen : Command → Option Byte
  | .getInfo => some 0x0A
  | .sendKbGeneral | .sendMsAbs | .sendMsRel | .getParaCfg | .setParaCfg | .getUsbString | .setUsbString
  | .setDefaultCfg | .reset => none

/-- R91: the command's name in spec/opcode_table.json. -/
def commandName : Command → String
  | .getInfo       => "GET_INFO"
  | .sendKbGeneral => "SEND_KB_GENERAL"
  | .sendMsAbs     => "SEND_MS_ABS"
  | .sendMsRel     => "SEND_MS_REL"
  | .getParaCfg    => "GET_PARA_CFG"
  | .setParaCfg    => "SET_PARA_CFG"
  | .getUsbString  => "GET_USB_STRING"
  | .setUsbString  => "SET_USB_STRING"
  | .setDefaultCfg => "SET_DEFAULT_CFG"
  | .reset         => "RESET"

/-- R93: the row of a command's request. -/
def requestRow (k : Command) : OpcodeRow := frameRow ("REQ_" ++ commandName k) (Params.default.code k) (requestLen k)

/-- R93: the row of a command's response. -/
def responseRow (k : Command) : OpcodeRow :=
  frameRow ("RSP_" ++ commandName k) (respCode (Params.default.code k)) (responseLen k)

/-- R93: the opcode table has the request row and the response row of every command, and no other. -/
theorem opcodeTable_eq : opcodeTable = allCommands.flatMap fun k => [requestRow k, responseRow k] := rfl

theorem mem_opcodeTable_iff (r : OpcodeRow) : r ∈ opcodeTable ↔ ∃ k, r = requestRow k ∨ r = responseRow k := by
  have hall : ∀ k, k ∈ allCommands := fun k => by cases k <;> decide
  simp [opcodeTable_eq, hall]

/-- R85: LEN is a given byte iff the number of DATA bytes is that byte's value. -/
theorem len_eq_iff {data : Bytes} (hd : data.length ≤ maxPayload) (n : Byte) :
    BitVec.ofNat 8 data.length = n ↔ data.length = n.toNat := by
  rw [← BitVec.toNat_inj, toNat_len_of_le hd]

/-- R93: a request row is found for the DATA whose LEN the row admits. -/
theorem exists_requestInstr_iff (k : Command) (addr : Byte) (data : Bytes) :
    (∃ i, requestInstr k addr data = some i) ↔ ∀ n ∈ requestLen k, data.length = n.toNat := by
  cases k <;> simp [requestInstr, requestLen]

/-- R93: a response row is found for the DATA whose LEN the row admits. -/
theorem exists_responseInstr_iff (k : Command) (addr : Byte) (data : Bytes) :
    (∃ i, responseInstr Params.default k addr data = some i) ↔ ∀ n ∈ responseLen k, data.length = n.toNat := by
  have hsize : Params.default.infoSize = 10 := rfl
  cases k <;> simp [responseInstr, responseLen, hsize]

/-- R88, R93: a word `W` belongs to a command's request row iff CMD and DATA look that row up. -/
theorem requestRow_has_iff (k : Command) (addr cmd : Byte) {data : Bytes} (hd : data.length ≤ maxPayload) :
    (requestRow k).has (prefixWord addr cmd (BitVec.ofNat 8 data.length)) = true ↔
      cmd = Params.default.code k ∧ ∃ i, requestInstr k addr data = some i := by
  simp only [requestRow, frameRow_has_iff, exists_requestInstr_iff, len_eq_iff hd]

/-- R88, R93: a word `W` belongs to a command's response row iff CMD and DATA look that row up. -/
theorem responseRow_has_iff (k : Command) (addr cmd : Byte) {data : Bytes} (hd : data.length ≤ maxPayload) :
    (responseRow k).has (prefixWord addr cmd (BitVec.ofNat 8 data.length)) = true ↔
      cmd = respCode (Params.default.code k) ∧ ∃ i, responseInstr Params.default k addr data = some i := by
  simp only [responseRow, frameRow_has_iff, exists_responseInstr_iff, len_eq_iff hd]

/-- R93: a request found has the mnemonic of its command's row. -/
theorem mnemonic_of_requestInstr {k : Command} {addr : Byte} {data : Bytes} {i : Instr}
    (h : requestInstr k addr data = some i) : (requestRow k).mnemonic = i.mnemonic := by
  cases k with
  | getInfo | getParaCfg | setDefaultCfg | reset =>
    obtain ⟨-, hi⟩ := Option.ite_none_right_eq_some.mp h
    obtain rfl := Option.some.inj hi
    rfl
  | sendKbGeneral | sendMsAbs | sendMsRel | setParaCfg | getUsbString | setUsbString =>
    obtain rfl := Option.some.inj h
    rfl

/-- R93: a response found has the mnemonic of its command's row. -/
theorem mnemonic_of_responseInstr {par : Params} {k : Command} {addr : Byte} {data : Bytes} {i : Instr}
    (h : responseInstr par k addr data = some i) : (responseRow k).mnemonic = i.mnemonic := by
  cases k with
  | getInfo =>
    obtain ⟨-, hi⟩ := Option.ite_none_right_eq_some.mp h
    obtain rfl := Option.some.inj hi
    rfl
  | sendKbGeneral | sendMsAbs | sendMsRel | getParaCfg | setParaCfg | getUsbString | setUsbString | setDefaultCfg
  | reset =>
    obtain rfl := Option.some.inj h
    rfl

/-- Settles O5: both sides look a command up by its request or its response code, and then ask for the LEN of its row. -/
theorem decoderAgreesWithTheOpcodeTable : Obligations.DecoderAgreesWithTheOpcodeTable := by
  intro addr cmd data hd
  have hcodes : Params.default.codesOk = true := by decide
  constructor
  · intro i hi
    obtain ⟨k, ⟨hcmd, hk⟩ | ⟨hcmd, hk⟩⟩ := (decodeFields_eq_some_iff hcodes addr cmd data i).mp hi
    · exact ⟨requestRow k, (mem_opcodeTable_iff _).mpr ⟨k, .inl rfl⟩, mnemonic_of_requestInstr hk,
        (requestRow_has_iff k addr cmd hd).mpr ⟨hcmd, i, hk⟩⟩
    · exact ⟨responseRow k, (mem_opcodeTable_iff _).mpr ⟨k, .inr rfl⟩, mnemonic_of_responseInstr hk,
        (responseRow_has_iff k addr cmd hd).mpr ⟨hcmd, i, hk⟩⟩
  · intro hnone r hr
    refine Bool.eq_false_iff.mpr fun hhas => ?_
    obtain ⟨i, hi⟩ : ∃ i, decodeFields Params.default addr cmd data = some i := by
      obtain ⟨k, rfl | rfl⟩ := (mem_opcodeTable_iff r).mp hr
      · obtain ⟨hcmd, i, hk⟩ := (requestRow_has_iff k addr cmd hd).mp hhas
        exact ⟨i, (decodeFields_eq_some_iff hcodes addr cmd data i).mpr ⟨k, .inl ⟨hcmd, hk⟩⟩⟩
      · obtain ⟨hcmd, i, hk⟩ := (responseRow_has_iff k addr cmd hd).mp hhas
        exact ⟨i, (decodeFields_eq_some_iff hcodes addr cmd data i).mpr ⟨k, .inr ⟨hcmd, hk⟩⟩⟩
    rw [hnone] at hi
    cases hi

end Sys2Proof

/-! # Proofs for spec/40_checksum_and_encode.md: SUM8, ENCODE and VALID_FRAME (R111 to R118, R298, R324, R337) -/

namespace Sys2Proof.Machine

/-! ## SUM8 is a sum of bytes (R111, R112) -/

theorem sum8From_eq_add_sum (acc : Byte) (b : Bytes) : sum8From acc b = acc + b.sum := by
  induction b generalizing acc with
  | nil => simp [sum8From]
  | cons x xs ih => rw [sum8From, ih, List.sum_cons, add_assoc]

/-- R111: SUM8 is the sum of the bytes in the ring of bytes. -/
theorem sum8_eq_sum (b : Bytes) : sum8 b = b.sum := by
  rw [sum8, sum8From_eq_add_sum]
  exact zero_add _

/-- R111: a sum of bytes is the sum of their values modulo 256. -/
theorem toNat_sum_bytes (b : Bytes) : b.sum.toNat = (b.map BitVec.toNat).sum % 256 := by
  induction b with
  | nil => rfl
  | cons x xs ih => rw [List.sum_cons, List.map_cons, List.sum_cons, BitVec.toNat_add, ih, Nat.add_mod_mod]

/-- R112 (a). -/
theorem sum8_append (a b : Bytes) : sum8 (a ++ b) = sum8 a + sum8 b := by
  simp only [sum8_eq_sum, List.sum_append]

/-- R112 (b): the header adds the constant `0x02`. -/
theorem sum8_framePrefix (addr cmd : Byte) (payload : Bytes) :
    sum8 (framePrefix addr cmd payload) =
      0x02#8 + addr + cmd + BitVec.ofNat 8 payload.length + sum8 payload := by
  rw [framePrefix, sum8_append]
  rfl

/-- R112 (c). -/
theorem sum8_perm {a b : Bytes} (h : a.Perm b) : sum8 a = sum8 b := by
  simp only [sum8_eq_sum, h.sum_eq]

/-- R112 (d): a changed byte moves the sum by the difference. -/
theorem sum8_set {b : Bytes} {i : Nat} (hi : i < b.length) (v : Byte) : sum8 (b.set i v) = sum8 b + (v - b[i]) := by
  rw [sum8_eq_sum, sum8_eq_sum, List.sum_set', dif_pos hi, neg_add_eq_sub]

/-- R112 (d): a changed byte changes the sum. -/
theorem sum8_set_ne {b : Bytes} {i : Nat} {v : Byte} (hi : i < b.length) (hv : v ≠ b[i]) :
    sum8 (b.set i v) ≠ sum8 b := by
  rw [sum8_set hi, Ne, add_eq_left]
  exact sub_ne_zero.mpr hv

/-- R112 (e): two changes that cancel leave the sum. -/
theorem sum8_set_set_of_cancel {b : Bytes} {i j : Nat} {v w : Byte} (hi : i < b.length) (hj : j < b.length)
    (hij : i ≠ j) (hcancel : (v - b[i]) + (w - b[j]) = 0#8) : sum8 ((b.set i v).set j w) = sum8 b := by
  rw [sum8_set (by simpa using hj), List.getElem_set_ne hij, sum8_set hi, add_assoc, hcancel]
  exact add_zero _

/-- Settles O6: SUM8 is the sum in the ring of bytes, whose value is the sum of the values modulo 256. -/
theorem checksumIsTheSumModulo256 : Obligations.ChecksumIsTheSumModulo256 := by
  intro b
  rw [sum8_eq_sum, toNat_sum_bytes]

/-- Settles O7: the laws of sums in the ring of bytes. -/
theorem checksumLaws : Obligations.ChecksumLaws :=
  ⟨sum8_append, ⟨rfl, sum8_framePrefix⟩, fun _ _ => sum8_perm, fun _ _ v hi => ⟨sum8_set hi v, sum8_set_ne hi⟩,
    fun _ _ _ _ _ => sum8_set_set_of_cancel⟩

/-! ## The bytes of an encoded frame (R80, R115, R116) -/

theorem encodeFrame_eq_some_iff {addr cmd : Byte} {payload f : Bytes} :
    encodeFrame addr cmd payload = some f ↔ payload.length ≤ maxPayload ∧ f = frameBytes addr cmd payload := by
  simp [encodeFrame, eq_comm]

theorem encodeFrame_eq_none_iff {addr cmd : Byte} {payload : Bytes} :
    encodeFrame addr cmd payload = none ↔ maxPayload < payload.length := by
  simp [encodeFrame]

/-- R80: the bytes before SUM and the byte at SUM's place. -/
theorem length_framePrefix_append (addr cmd sum : Byte) (payload : Bytes) :
    (framePrefix addr cmd payload ++ [sum]).length = 6 + payload.length := by
  rw [List.length_append, length_framePrefix, List.length_singleton]
  omega

/-- R116 (a). -/
theorem length_frameBytes (addr cmd : Byte) (payload : Bytes) :
    (frameBytes addr cmd payload).length = 6 + payload.length := length_framePrefix_append ..

/-- R116 (b): the bytes before SUM, whatever stands at SUM's place. -/
theorem slice_framePrefix_append (addr cmd sum : Byte) (payload : Bytes) :
    slice (framePrefix addr cmd payload ++ [sum]) 0 (5 + payload.length) = framePrefix addr cmd payload := by
  rw [slice, List.drop_zero, List.take_left' (length_framePrefix addr cmd payload)]

/-- R116 (b): the DATA bytes. -/
theorem slice_framePrefix_append_data (addr cmd sum : Byte) (payload : Bytes) :
    slice (framePrefix addr cmd payload ++ [sum]) 5 (5 + payload.length) = payload := by
  rw [slice, List.take_left' (length_framePrefix addr cmd payload)]
  rfl

/-- R116 (b): the byte at SUM's place. -/
theorem getElem?_framePrefix_append_sum (addr cmd sum : Byte) (payload : Bytes) :
    (framePrefix addr cmd payload ++ [sum])[5 + payload.length]? = some sum := by
  rw [← length_framePrefix addr cmd payload, List.getElem?_concat_length]

/-! ## The header at the first byte (R131) -/

theorem findHeader_eq_zero_iff (b : Bytes) :
    findHeader b = some 0 ↔ b[0]? = some hdr0 ∧ b[1]? = some hdr1 := by
  match b with
  | [] => simp [findHeader]
  | [_] => simp [findHeader]
  | x :: y :: rest => simp [findHeader]

/-- R131, R133: bytes that one candidate fills, header to SUM, are a frame's bytes before SUM and one more. -/
theorem eq_framePrefix_append_of_fills {b : Bytes} (hh : findHeader b = some 0)
    (hlen : b.length = 6 + (byteAt b 4).toNat) :
    ∃ addr cmd payload sum, payload.length ≤ maxPayload ∧ b = framePrefix addr cmd payload ++ [sum] := by
  obtain ⟨addr, cmd, payload, sum, rest, hp, rfl⟩ :=
    drop_eq_framePrefix_of_complete hh (by simpa using hlen.ge)
  have hl : byteAt (framePrefix addr cmd payload ++ sum :: rest) 4 = BitVec.ofNat 8 payload.length := rfl
  rw [hl, toNat_len_of_le hp, List.length_append, length_framePrefix, List.length_cons] at hlen
  obtain rfl := List.eq_nil_of_length_eq_zero (by omega : rest.length = 0)
  exact ⟨addr, cmd, payload, sum, hp, rfl⟩

/-! ## Which bytes are a valid frame (R115, R117) -/

/-- R117: a valid frame begins with the header and is one candidate from its first byte to its last. -/
theorem fills_of_validFrame {f : Bytes} (hf : validFrame f = true) :
    findHeader f = some 0 ∧ f.length = 6 + (byteAt f 4).toNat := by
  simp only [validFrame, Bool.and_eq_true, decide_eq_true_eq, beq_iff_eq] at hf
  obtain ⟨⟨⟨⟨hsix, h0⟩, h1⟩, hlen⟩, -⟩ := hf
  match f with
  | x :: y :: rest => exact ⟨(findHeader_eq_zero_iff _).mpr ⟨congrArg some h0, congrArg some h1⟩, by omega⟩
  | [] | [_] => simp at hsix

/-- R117: with header and LEN right, a frame is valid iff its last byte is the SUM. -/
theorem validFrame_framePrefix_append_iff {payload : Bytes} (hp : payload.length ≤ maxPayload) (addr cmd sum : Byte) :
    validFrame (framePrefix addr cmd payload ++ [sum]) = true ↔ sum = sum8 (framePrefix addr cmd payload) := by
  have hlength := length_framePrefix_append addr cmd sum payload
  have hlen : (byteAt (framePrefix addr cmd payload ++ [sum]) 4).toNat = payload.length := toNat_len_of_le hp
  have h0 : byteAt (framePrefix addr cmd payload ++ [sum]) 0 = hdr0 := rfl
  have h1 : byteAt (framePrefix addr cmd payload ++ [sum]) 1 = hdr1 := rfl
  have hend : 6 + payload.length - 1 = 5 + payload.length := by omega
  have hsum : byteAt (framePrefix addr cmd payload ++ [sum]) (5 + payload.length) = sum := by
    rw [byteAt, List.getD_eq_getElem?_getD, getElem?_framePrefix_append_sum, Option.getD_some]
  simp [validFrame, hlength, hlen, h0, h1, hend, hsum, slice_framePrefix_append]

/-- R115, R117: the valid frames are the frames of the payloads that fit. -/
theorem validFrame_iff (f : Bytes) :
    validFrame f = true ↔
      ∃ addr cmd payload, payload.length ≤ maxPayload ∧ f = frameBytes addr cmd payload := by
  constructor
  · intro hf
    obtain ⟨hh, hlen⟩ := fills_of_validFrame hf
    obtain ⟨addr, cmd, payload, sum, hp, rfl⟩ := eq_framePrefix_append_of_fills hh hlen
    obtain rfl := (validFrame_framePrefix_append_iff hp addr cmd sum).mp hf
    exact ⟨addr, cmd, payload, hp, rfl⟩
  · rintro ⟨addr, cmd, payload, hp, rfl⟩
    exact (validFrame_framePrefix_append_iff hp addr cmd _).mpr rfl

/-- R116 (d): TRY_PARSE of a frame alone gives it back and consumes it. -/
theorem tryParse_frameBytes {payload : Bytes} (hp : payload.length ≤ maxPayload) (addr cmd : Byte) :
    tryParse (frameBytes addr cmd payload) =
      ⟨some ⟨hdr0 ++ hdr1, addr, cmd, BitVec.ofNat 8 payload.length, payload, sum8 (framePrefix addr cmd payload)⟩,
        6 + payload.length, .frameOk⟩ := by
  have hnothing : frameBytes addr cmd payload ++ [] = frameBytes addr cmd payload := List.append_nil _
  have hh := findHeader_frameBytes_append addr cmd payload []
  rw [hnothing] at hh
  rw [tryParse_of_frameBytes hh hp hnothing.symm, Nat.zero_add]

/-- R116 (e): TRY_PARSE recovers the operands, so two frames that agree have the same. -/
theorem frameBytes_inj {addr cmd addr' cmd' : Byte} {payload payload' : Bytes} (hp : payload.length ≤ maxPayload)
    (hp' : payload'.length ≤ maxPayload) (h : frameBytes addr cmd payload = frameBytes addr' cmd' payload') :
    addr = addr' ∧ cmd = cmd' ∧ payload = payload' := by
  have hparse := congrArg (fun f => (tryParse f).frame) h
  simp only [tryParse_frameBytes hp, tryParse_frameBytes hp', Option.some.injEq, Frame.mk.injEq] at hparse
  obtain ⟨-, haddr, hcmd, -, hpayload, -⟩ := hparse
  exact ⟨haddr, hcmd, hpayload⟩

/-- Settles O8: the bytes of a frame one after the other; the operands come back from TRY_PARSE. -/
theorem encodeLaws : Obligations.EncodeLaws := by
  refine ⟨fun addr cmd payload hp => ⟨frameBytes addr cmd payload, encodeFrame_eq_some_iff.mpr ⟨hp, rfl⟩, ?_⟩,
    fun a c a' c' p p' f h h' => ?_⟩
  · have hbody : slice (frameBytes addr cmd payload) 0 (5 + payload.length) = framePrefix addr cmd payload :=
      slice_framePrefix_append ..
    rw [hbody]
    exact ⟨length_frameBytes .., rfl, slice_framePrefix_append_data .., getElem?_framePrefix_append_sum ..,
      (validFrame_iff _).mpr ⟨addr, cmd, payload, hp, rfl⟩, tryParse_frameBytes hp addr cmd⟩
  · obtain ⟨hp, rfl⟩ := encodeFrame_eq_some_iff.mp h
    obtain ⟨hp', heq⟩ := encodeFrame_eq_some_iff.mp h'
    exact frameBytes_inj hp hp' heq

/-- Settles O10: both are the frames of the payloads that fit. -/
theorem validFramesAreTheEncodings : Obligations.ValidFramesAreTheEncodings := by
  intro f
  simp only [validFrame_iff, encodeFrame_eq_some_iff]

/-! ## One changed byte (R118) -/

/-- R112 (d), R118: bytes followed by their SUM are no such bytes once one of them has changed. -/
theorem set_ne_append_sum8 {l : Bytes} {i : Nat} {v : Byte} (hi : i < (l ++ [sum8 l]).length)
    (hv : v ≠ (l ++ [sum8 l])[i]) (l' : Bytes) : (l ++ [sum8 l]).set i v ≠ l' ++ [sum8 l'] := by
  intro heq
  by_cases hbody : i < l.length
  · rw [List.set_append_left _ _ hbody] at heq
    rw [List.getElem_append_left hbody] at hv
    obtain ⟨rfl, hsum⟩ := List.append_inj' heq rfl
    exact sum8_set_ne hbody hv (List.singleton_inj.mp hsum).symm
  · obtain rfl : i = l.length := by
      simp only [List.length_append, List.length_singleton] at hi
      omega
    rw [List.set_append_right _ _ le_rfl, Nat.sub_self] at heq
    obtain ⟨rfl, hsum⟩ := List.append_inj' heq rfl
    exact hv (by simpa using hsum)

/-- R118: a valid frame with one changed byte is not valid. -/
theorem validFrame_set {f : Bytes} (hf : validFrame f = true) {i : Nat} {v : Byte} (hi : i < f.length) (hv : v ≠ f[i]) :
    validFrame (f.set i v) = false := by
  obtain ⟨addr, cmd, payload, -, rfl⟩ := (validFrame_iff f).mp hf
  refine Bool.eq_false_iff.mpr fun hvalid => ?_
  obtain ⟨addr', cmd', payload', -, heq⟩ := (validFrame_iff _).mp hvalid
  exact set_ne_append_sum8 hi hv (framePrefix addr' cmd' payload') heq

/-- R135: a candidate that fills the buffer and is no valid frame is a SumError over all of it. -/
theorem tryParse_of_fills_of_not_valid {b : Bytes} (hh : findHeader b = some 0)
    (hlen : b.length = 6 + (byteAt b 4).toNat) (hb : validFrame b = false) :
    tryParse b = ⟨none, b.length, .sumError⟩ := by
  obtain ⟨addr, cmd, payload, sum, hp, rfl⟩ := eq_framePrefix_append_of_fills hh hlen
  have hsum : sum8 (framePrefix addr cmd payload) ≠ sum := fun h =>
    Bool.eq_false_iff.mp hb ((validFrame_framePrefix_append_iff hp addr cmd sum).mpr h.symm)
  rw [tryParse_of_drop (rest := []) hh hp rfl, if_neg hsum, Nat.zero_add, length_framePrefix_append]

theorem byteAt_set_ne {b : Bytes} {i j : Nat} (h : i ≠ j) (v : Byte) : byteAt (b.set i v) j = byteAt b j := by
  rw [byteAt, byteAt, List.getD_eq_getElem?_getD, List.getElem?_set_ne h, ← List.getD_eq_getElem?_getD]

/-- R118: a change that leaves header and LEN is a SumError over the whole frame. -/
theorem tryParse_set {f : Bytes} (hf : validFrame f = true) {i : Nat} {v : Byte} (hi : i < f.length) (hv : v ≠ f[i])
    (h0 : i ≠ 0) (h1 : i ≠ 1) (h4 : i ≠ 4) : tryParse (f.set i v) = ⟨none, f.length, .sumError⟩ := by
  obtain ⟨hh, hlen⟩ := fills_of_validFrame hf
  have hh' : findHeader (f.set i v) = some 0 := by
    rw [findHeader_eq_zero_iff, List.getElem?_set_ne h0, List.getElem?_set_ne h1]
    exact (findHeader_eq_zero_iff f).mp hh
  have hlen' : (f.set i v).length = 6 + (byteAt (f.set i v) 4).toNat := by
    rw [List.length_set, byteAt_set_ne h4, hlen]
  rw [tryParse_of_fills_of_not_valid hh' hlen' (validFrame_set hf hi hv), List.length_set]

/-- R118: a changed header byte leaves no header at the first byte. -/
theorem findHeader_set_ne_zero {f : Bytes} (hh : findHeader f = some 0) {i : Nat} {v : Byte} (hi : i < f.length)
    (hv : v ≠ f[i]) (h01 : i = 0 ∨ i = 1) : findHeader (f.set i v) ≠ some 0 := by
  intro hset
  obtain ⟨h0, h1⟩ := (findHeader_eq_zero_iff f).mp hh
  obtain ⟨h0', h1'⟩ := (findHeader_eq_zero_iff _).mp hset
  suffices h : some v = f[i]? from hv (by simpa [hi] using h)
  rw [← List.getElem?_set_self hi]
  obtain rfl | rfl := h01
  · rw [h0, h0']
  · rw [h1, h1']

/-- R133: no other buffer as short as a valid frame delivers that frame: the frame's bytes would fill it. -/
theorem eq_of_tryParse_frame_eq {f b : Bytes} (hf : validFrame f = true) (hle : b.length ≤ f.length)
    (h : (tryParse b).frame = (tryParse f).frame) : b = f := by
  obtain ⟨addr, cmd, payload, hp, rfl⟩ := (validFrame_iff f).mp hf
  rw [tryParse_frameBytes hp] at h
  obtain ⟨-, k, -, hdrop⟩ := drop_eq_frameBytes_of_tryParse h
  have hlength := congrArg List.length hdrop
  simp only [List.length_append, List.length_drop] at hlength
  rw [length_frameBytes] at hle hlength
  obtain rfl : k = 0 := by omega
  have hnothing : b.drop (tryParse b).consumed = [] := by
    rw [← List.length_eq_zero_iff, List.length_drop]
    omega
  rw [hnothing, List.append_nil] at hdrop
  exact hdrop

/-- Settles O11: one changed byte breaks the SUM, moves the header, or changes LEN; the frame delivered, if any, is not
the original, whose bytes are not there; the shorter frame is that of V14. -/
theorem oneChangedByteIsRejected : Obligations.OneChangedByteIsRejected := by
  refine ⟨fun f i v hi hf hv => ⟨validFrame_set hf hi hv, tryParse_set hf hi hv,
    findHeader_set_ne_zero (fills_of_validFrame hf).1 hi hv, fun hframe => ?_⟩, ?_⟩
  · have hsame : f.set i v = f := eq_of_tryParse_frame_eq hf (List.length_set ..).le hframe
    have hself : (f.set i v)[i]? = some v := List.getElem?_set_self hi
    rw [hsame, List.getElem?_eq_getElem hi] at hself
    exact hv (Option.some.inj hself).symm
  · exact ⟨[0x57, 0xAB, 0x00, 0x01, 0x02, 0x03, 0x00, 0x08], 0x00, by decide⟩

/-! ## ENCODE on operands of any size (R324, R337) -/

theorem inU8_iff (v : Int) : inU8 v = true ↔ 0 ≤ v ∧ v ≤ 255 := by
  simp [inU8]

/-- R337: the ranges that ENCODE checks are those of all its operands. -/
theorem operands_inU8_iff (addr cmd : Int) (payload : List Int) :
    (inU8 addr && inU8 cmd && payload.all inU8) = true ↔ ∀ v ∈ addr :: cmd :: payload, 0 ≤ v ∧ v ≤ 255 := by
  simp only [Bool.and_eq_true, List.all_eq_true, inU8_iff, List.forall_mem_cons, and_assoc]

section
variable {addr cmd : Int} {payload : List Int}

theorem encodeChecked_of_tooLong (h : maxPayload < payload.length) :
    encodeChecked addr cmd payload = .inl .payloadTooLong := by
  rw [encodeChecked, if_pos h]

theorem encodeChecked_of_outOfRange (hp : payload.length ≤ maxPayload)
    (h : ∃ v ∈ addr :: cmd :: payload, v < 0 ∨ 255 < v) : encodeChecked addr cmd payload = .inl .outOfRange := by
  obtain ⟨v, hmem, hv⟩ := h
  rw [encodeChecked, if_neg hp.not_gt, if_neg]
  intro hall
  have := (operands_inU8_iff addr cmd payload).mp hall v hmem
  omega

theorem encodeChecked_of_inRange (hp : payload.length ≤ maxPayload)
    (h : ∀ v ∈ addr :: cmd :: payload, 0 ≤ v ∧ v ≤ 255) :
    encodeChecked addr cmd payload =
      .inr (frameBytes (BitVec.ofInt 8 addr) (BitVec.ofInt 8 cmd) (payload.map (BitVec.ofInt 8))) := by
  rw [encodeChecked, if_neg hp.not_gt, if_pos ((operands_inU8_iff addr cmd payload).mpr h)]

theorem opEncode_of_inl {e : EncodingError} (h : encodeChecked addr cmd payload = .inl e) (s : State) :
    opEncode addr cmd payload s = .next (s.replied (.hard (.encoding e))) := by
  simp only [opEncode, h]
  rfl

theorem opEncode_of_inr {f : Bytes} (h : encodeChecked addr cmd payload = .inr f) (s : State) :
    opEncode addr cmd payload s = .next (s.replied (.ok (.bytes f))) := by
  simp only [opEncode, h]
  rfl

end

/-- Settles O9: the operation runs on the state with the call taken and returns what the checks give in their order. -/
theorem encodeOperationChecksThenEncodes : Obligations.EncodeOperationChecksThenEncodes := by
  intro s₀ s addr cmd payload hasks
  have hrun : step s₀ = opEncode addr cmd payload s := step_of_asks hasks
  rw [hrun]
  refine ⟨fun hlong => opEncode_of_inl (encodeChecked_of_tooLong hlong) s,
    fun hp hbad => opEncode_of_inl (encodeChecked_of_outOfRange hp hbad) s,
    fun hp hgood => ⟨_, encodeFrame_eq_some_iff.mpr ⟨?_, rfl⟩, opEncode_of_inr (encodeChecked_of_inRange hp hgood) s⟩⟩
  rwa [List.length_map]

/-! ## A request payload that does not fit (R115, R298, R338) -/

/-- R298, R338: S1 has counted the request when ENCODE refuses its payload; the transport is not touched. -/
theorem transmit_of_tooLong {s : State} (hs : s.Ready) {payload : Bytes} (hp : maxPayload < payload.length)
    (addr cmd : Byte) (h : Handler) :
    transmit addr cmd payload h s = .next (s.started.ended (.hard (.encoding .payloadTooLong))) := by
  have hnone : encodeFrame addr cmd payload = none := encodeFrame_eq_none_iff.mpr hp
  rw [transmit, whenFree_of_ready hs]
  obtain ⟨-, heq⟩ | ⟨hsome, -⟩ | ⟨hsome, -⟩ := sendRequest_cases addr cmd payload h s
  · exact heq
  · simp [hnone] at hsome
  · simp [hnone] at hsome

/-- R178: a selector 0, 1 or 2 is found. -/
theorem slotOf_cons {slot : Byte} (h : slot.toNat ≤ 2) (rest : Bytes) : slotOf (slot :: rest) = some slot := if_pos h

/-- R297: what ENCODE refuses is no instruction, so SEQR transmits `TXR` as it stands. -/
theorem sendStep_of_tooLong {s : State} (hp : maxPayload < s.txr.payload.length) : sendStep s = transmitTxr s := by
  rw [sendStep, encodeFrame_eq_none_iff.mpr hp]

/-- Settles O29: the five requests with a free payload and both positions before S1 transmit it; ENCODE refuses it. -/
theorem oversizedRequestsAreRefusedAtS1 : Obligations.OversizedRequestsAreRefusedAtS1 := by
  refine ⟨fun s addr data hs hp => ?_, fun s₀ s hturn hpos hs hp => ?_⟩
  · have hrefused := fun cmd h => transmit_of_tooLong hs hp addr cmd h
    refine ⟨hrefused _ _, hrefused _ _, hrefused _ _, hrefused _ _, fun slot rest hdata hslot => ?_⟩
    have hfound : slotOf data = some slot := hdata ▸ slotOf_cons hslot rest
    simp only [exec, execReqGetUsbString, hfound, hrefused]
  · have hrefused : transmitTxr s = _ := transmit_of_tooLong hs hp s.txr.addr s.txr.cmd s.hnd
    rw [step_of_turn hturn, moveStep]
    cases hat : s.pos with
    | send => exact (sendStep_of_tooLong hp).trans hrefused
    | sendDirect => exact hrefused
    | idle | parse | deadline | read => simp [hat, SeqPos.sending] at hpos

end Sys2Proof.Machine

/-! # Proofs for spec/41_frame_parse.md: FIND_HEADER, TRY_PARSE, DRAIN, the segmentation, the step (R131-R151, R297) -/

namespace Sys2Proof.Machine

/-! ## Where a header stands (R131) -/

/-- R131: the two header bytes stand next to each other at index `k`. -/
def HeaderAt (b : Bytes) (k : Nat) : Prop := b[k]? = some hdr0 ∧ b[k + 1]? = some hdr1

@[simp] theorem headerAt_cons_succ (x : Byte) (xs : Bytes) (k : Nat) : HeaderAt (x :: xs) (k + 1) ↔ HeaderAt xs k :=
  Iff.rfl

theorem findHeader_cons_of_not_headerAt {x : Byte} {xs : Bytes} (h : ¬ HeaderAt (x :: xs) 0) :
    findHeader (x :: xs) = (findHeader xs).map (· + 1) := by
  cases xs with
  | nil => rfl
  | cons y ys => exact if_neg fun ⟨hx, hy⟩ => h ⟨congrArg some hx, congrArg some hy⟩

theorem findHeader_eq_some_iff (b : Bytes) (h : Nat) :
    findHeader b = some h ↔ HeaderAt b h ∧ ∀ k < h, ¬ HeaderAt b k := by
  induction b generalizing h with
  | nil => simp [findHeader, HeaderAt]
  | cons x xs ih =>
    by_cases hx : HeaderAt (x :: xs) 0
    · rw [(findHeader_eq_zero_iff _).mpr hx, Option.some.injEq]
      constructor
      · rintro rfl
        exact ⟨hx, nofun⟩
      · rintro ⟨-, hleast⟩
        exact (Nat.eq_zero_of_not_pos fun hpos => hleast 0 hpos hx).symm
    · rw [findHeader_cons_of_not_headerAt hx]
      cases h with
      | zero => simp [hx]
      | succ h =>
        simp only [Option.map_eq_some_iff, Nat.add_right_cancel_iff, exists_eq_right, ih, Nat.forall_lt_succ_left, hx,
          headerAt_cons_succ, not_false_eq_true, true_and]

theorem findHeader_eq_none_iff (b : Bytes) : findHeader b = none ↔ ∀ k, ¬ HeaderAt b k := by
  induction b with
  | nil => simp [findHeader, HeaderAt]
  | cons x xs ih =>
    rw [← Nat.and_forall_add_one]
    by_cases hx : HeaderAt (x :: xs) 0
    · simp [(findHeader_eq_zero_iff _).mpr hx, hx]
    · simp [findHeader_cons_of_not_headerAt hx, hx, ih]

theorem headerAt_append_iff {b : Bytes} {k : Nat} (hk : k + 1 < b.length) (more : Bytes) :
    HeaderAt (b ++ more) k ↔ HeaderAt b k := by
  rw [HeaderAt, List.getElem?_append_left hk, List.getElem?_append_left (Nat.lt_of_succ_lt hk), HeaderAt]

/-- R131: bytes that come later do not move a header that is found. -/
theorem findHeader_append_of_some {b : Bytes} {h : Nat} (hh : findHeader b = some h) (more : Bytes) :
    findHeader (b ++ more) = some h := by
  rw [findHeader_eq_some_iff] at hh ⊢
  obtain ⟨hat, hleast⟩ := hh
  have hlt : h + 1 < b.length := (List.getElem?_eq_some_iff.mp hat.2).1
  refine ⟨(headerAt_append_iff hlt more).mpr hat, fun k hk => ?_⟩
  rw [headerAt_append_iff (by omega)]
  exact hleast k hk

/-! ## Bytes that a parse skips (R133, R138) -/

/-- R131: no header begins in the first `n` bytes. -/
def NoHeaderBefore (b : Bytes) (n : Nat) : Prop := ∀ k < n, ¬ HeaderAt b k

theorem findHeader_of_noHeaderBefore {b : Bytes} {n : Nat} (hn : NoHeaderBefore b n) :
    findHeader b = (findHeader (b.drop n)).map (· + n) := by
  induction n generalizing b with
  | zero => simp
  | succ n ih =>
    cases b with
    | nil => rfl
    | cons x xs =>
      rw [findHeader_cons_of_not_headerAt (hn 0 n.succ_pos), ih fun k hk => hn (k + 1) (Nat.succ_lt_succ hk),
        Option.map_map]
      rfl

/-- R131: noise followed by what is no second header byte begins no header. -/
theorem noHeaderBefore_noise {noise b : Bytes} (hn : findHeader noise = none) (hb : b.head? ≠ some hdr1) :
    NoHeaderBefore (noise ++ b) noise.length := by
  intro k hk hat
  by_cases hin : k + 1 < noise.length
  · exact (findHeader_eq_none_iff noise).mp hn k ((headerAt_append_iff hin b).mp hat)
  · refine hb ?_
    rw [← hat.2, List.getElem?_append_right (by omega), List.head?_eq_getElem?]
    congr 1
    omega

/-- R131, R138: what is consumed without a header begins none, whatever comes later. -/
theorem noHeaderBefore_noHeaderConsumed {b : Bytes} (hb : findHeader b = none) (more : Bytes) :
    NoHeaderBefore (b ++ more) (noHeaderConsumed b) := by
  intro k hk hat
  by_cases hin : k + 1 < b.length
  · exact (findHeader_eq_none_iff b).mp hb k ((headerAt_append_iff hin more).mp hat)
  · unfold noHeaderConsumed at hk
    split at hk
    · omega
    · next hlast =>
      refine hlast ?_
      rw [List.getLast?_eq_getElem?, ← hat.1, List.getElem?_append_left hk]
      congr 1
      omega

/-- R138: without a header a parse leaves nothing, or a final first header byte. -/
theorem drop_noHeaderConsumed (b : Bytes) :
    b.drop (noHeaderConsumed b) = [] ∨ b.drop (noHeaderConsumed b) = [hdr0] := by
  unfold noHeaderConsumed
  split
  · next hlast =>
    obtain ⟨init, rfl⟩ := List.getLast?_eq_some_iff.mp hlast
    exact .inr (by simp)
  · exact .inl (List.drop_length ..)

/-- R131: noise and a header behind it. -/
theorem findHeader_noise_append {noise : Bytes} (hn : findHeader noise = none) (tail : Bytes) :
    findHeader (noise ++ hdr0 :: hdr1 :: tail) = some noise.length := by
  rw [findHeader_of_noHeaderBefore (noHeaderBefore_noise hn (by simp [hdr0, hdr1])), List.drop_left]
  simp [findHeader]

/-- R131: a byte that is no first header byte, or that no second one follows, begins no header. -/
theorem noHeaderBefore_one {x : Byte} {b : Bytes} (h : x ≠ hdr0 ∨ b.head? ≠ some hdr1) :
    NoHeaderBefore (x :: b) 1 := by
  intro k hk hat
  obtain rfl : k = 0 := by omega
  obtain ⟨hx, hb⟩ := hat
  obtain h | h := h
  · exact h (Option.some.inj hx)
  · exact h (by rw [List.head?_eq_getElem?, ← hb]; rfl)

/-! ## TRY_PARSE on noise, a candidate and more bytes (R134 to R138) -/

/-- R136, R137: a header with too few bytes behind it. -/
theorem tryParse_of_short {b : Bytes} {h : Nat} (hh : findHeader b = some h)
    (hshort : b.length - h < 5 ∨ b.length - h < 6 + (byteAt b (h + 4)).toNat) :
    tryParse b = ⟨none, 0, .incomplete⟩ := by
  obtain ⟨hk, -⟩ | ⟨_, -, -, hp⟩ | ⟨k, hk, hlen, -⟩ | ⟨k, hk, hlen, -⟩ := tryParse_cases b
  · simp [hk] at hh
  · exact hp
  all_goals
    obtain rfl : k = h := Option.some.inj (hk.symm.trans hh)
    omega

/-- R136, R137: noise and a header behind it, with LEN not there yet, or fewer bytes than LEN declares. -/
theorem tryParse_of_incomplete {noise tail : Bytes} (hn : findHeader noise = none)
    (ht : tail.length < 3 ∨ ∃ len, tail[2]? = some len ∧ tail.length < 4 + len.toNat) :
    tryParse (noise ++ hdr0 :: hdr1 :: tail) = ⟨none, 0, .incomplete⟩ := by
  refine tryParse_of_short (findHeader_noise_append hn tail) ?_
  have hlength : (noise ++ hdr0 :: hdr1 :: tail).length - noise.length = tail.length + 2 := by simp
  rw [hlength]
  obtain ht | ⟨len, hlen, ht⟩ := ht
  · exact .inl (by omega)
  · have hbyte : byteAt (noise ++ hdr0 :: hdr1 :: tail) (noise.length + 4) = len := by
      rw [byteAt_add, List.drop_left, byteAt, List.getD_eq_getElem?_getD]
      exact congrArg (Option.getD · 0#8) hlen
    exact .inr (by rw [hbyte]; omega)

/-- R133: TRY_PARSE finds a whole candidate at the leftmost header, or it stops. -/
theorem candidate_or_stops (b : Bytes) :
    (∃ h addr cmd payload sum rest, findHeader b = some h ∧ payload.length ≤ maxPayload ∧
      b.drop h = framePrefix addr cmd payload ++ sum :: rest) ∨ (tryParse b).Stops := by
  obtain ⟨-, hp⟩ | ⟨_, -, -, hp⟩ | ⟨h, hh, hlen, -⟩ | ⟨h, hh, hlen, -⟩ := tryParse_cases b
  · exact .inr (.inr (by rw [hp]))
  · exact .inr (.inl (by rw [hp]))
  all_goals
    obtain ⟨addr, cmd, payload, sum, rest, hp, hdrop⟩ := drop_eq_framePrefix_of_complete hh hlen
    exact .inl ⟨h, addr, cmd, payload, sum, rest, hh, hp, hdrop⟩

theorem ParseResult.TakesCandidate.not_stops {r : ParseResult} (h : r.TakesCandidate) : ¬ r.Stops := by
  rintro (h' | h') <;> simp [ParseResult.TakesCandidate, h'] at h

/-- R136 to R138: a parse stops for want of a header, or of bytes behind it. -/
theorem tryParse_cases_of_stops {b : Bytes} (hb : (tryParse b).Stops) :
    (findHeader b = none ∧ tryParse b = ⟨none, noHeaderConsumed b, .noHeader⟩) ∨
    (∃ h, findHeader b = some h ∧ (b.length - h < 5 ∨ b.length - h < 6 + (byteAt b (h + 4)).toNat) ∧
      tryParse b = ⟨none, 0, .incomplete⟩) := by
  obtain h | h | ⟨_, -, -, -, hp⟩ | ⟨_, -, -, -, hp⟩ := tryParse_cases b
  · exact .inl h
  · exact .inr h
  all_goals simp [ParseResult.Stops, hp] at hb

/-- R134, R135: what a parse takes does not depend on the bytes that follow. -/
theorem tryParse_append {b : Bytes} (hb : (tryParse b).TakesCandidate) (more : Bytes) :
    tryParse (b ++ more) = tryParse b := by
  obtain ⟨h, addr, cmd, payload, sum, rest, hh, hp, hdrop⟩ | hstops := candidate_or_stops b
  · have hle : h ≤ b.length := by
      by_contra hlt
      simp [List.drop_eq_nil_of_le (by omega : b.length ≤ h)] at hdrop
    have hdrop' : (b ++ more).drop h = framePrefix addr cmd payload ++ sum :: (rest ++ more) := by
      rw [List.drop_append_of_le_length hle, hdrop, List.append_assoc, List.cons_append]
    rw [tryParse_of_drop (findHeader_append_of_some hh more) hp hdrop', tryParse_of_drop hh hp hdrop]
  · exact absurd hstops hb.not_stops

/-- R134, R135: bytes that begin no header are consumed with the candidate behind them. -/
theorem tryParse_of_noHeaderBefore {b : Bytes} {n : Nat} (hn : NoHeaderBefore b n)
    (hb : (tryParse (b.drop n)).TakesCandidate) :
    tryParse b = { tryParse (b.drop n) with consumed := n + (tryParse (b.drop n)).consumed } := by
  obtain ⟨h, addr, cmd, payload, sum, rest, hh, hp, hdrop⟩ | hstops := candidate_or_stops (b.drop n)
  · have hh' : findHeader b = some (n + h) := by
      rw [findHeader_of_noHeaderBefore hn, hh, Option.map_some, Nat.add_comm]
    rw [tryParse_of_drop hh' hp (by rw [← List.drop_drop, hdrop]), tryParse_of_drop hh hp hdrop]
    split <;> simp only [Nat.add_assoc]
  · exact absurd hstops hb.not_stops

/-- R136 to R138: behind bytes that begin no header a parse stops where it stops without them. -/
theorem stops_of_noHeaderBefore {b : Bytes} {n : Nat} (hn : NoHeaderBefore b n) (hb : (tryParse (b.drop n)).Stops) :
    (tryParse b).Stops := by
  have hh := findHeader_of_noHeaderBefore hn
  obtain ⟨hk, -⟩ | ⟨k, hk, hshort, -⟩ := tryParse_cases_of_stops hb
  · exact .inr (by rw [tryParse, hh, hk]; rfl)
  · have hshort' : b.length - (n + k) < 5 ∨ b.length - (n + k) < 6 + (byteAt b (n + k + 4)).toNat := by
      rw [Nat.add_assoc, byteAt_add, ← Nat.sub_sub, ← List.length_drop]
      exact hshort
    exact .inl (by rw [tryParse_of_short (by rw [hh, hk, Option.map_some, Nat.add_comm]) hshort'])

/-- R136 to R138, D4: a parse that stops leaves a buffer on which the next stops as well. -/
theorem stops_drop_consumed {b : Bytes} (hb : (tryParse b).Stops) :
    (tryParse (b.drop (tryParse b).consumed)).Stops := by
  obtain ⟨-, hp⟩ | ⟨_, -, -, hp⟩ := tryParse_cases_of_stops hb
  · rw [hp]
    obtain hleft | hleft := drop_noHeaderConsumed b <;> rw [hleft] <;> exact .inr rfl
  · simpa [hp] using hb

/-! ## The statements about one parse -/

/-- Settles O12: `findHeader` answers the least index at which `HeaderAt` holds. -/
theorem headerIsTheLeftmostPair : Obligations.HeaderIsTheLeftmostPair :=
  fun b => ⟨fun h => (findHeader_eq_some_iff b h).trans and_assoc, findHeader_eq_none_iff b⟩

/-- Settles O13: the header behind the noise is the leftmost, and a frame's bytes stand there. -/
theorem completeFrameIsDelivered : Obligations.CompleteFrameIsDelivered := by
  intro noise payload rest addr cmd hn hp
  rw [List.append_assoc]
  exact tryParse_of_frameBytes (findHeader_noise_append hn _) hp (List.drop_left ..)

/-- R135: behind noise, a frame's bytes before SUM and a byte that is not the SUM. -/
theorem tryParse_of_wrong_sum {noise payload : Bytes} {addr cmd x : Byte} (hn : findHeader noise = none)
    (hp : payload.length ≤ maxPayload) (hx : x ≠ sum8 (framePrefix addr cmd payload)) (rest : Bytes) :
    tryParse (noise ++ (framePrefix addr cmd payload ++ [x]) ++ rest) =
      ⟨none, noise.length + (6 + payload.length), .sumError⟩ := by
  have hdrop : (noise ++ (framePrefix addr cmd payload ++ [x]) ++ rest).drop noise.length =
      framePrefix addr cmd payload ++ x :: rest := by simp
  rw [tryParse_of_drop ?_ hp hdrop, if_neg hx.symm]
  rw [List.append_assoc]
  exact findHeader_noise_append hn _

/-- Settles O14: `tryParse_of_wrong_sum`. -/
theorem failedCandidateIsConsumedWhole : Obligations.FailedCandidateIsConsumedWhole :=
  fun _ _ rest _ _ _ hn hp hx => tryParse_of_wrong_sum hn hp hx rest

/-- Settles O15: `tryParse_of_incomplete`. -/
theorem incompleteCandidateConsumesNothing : Obligations.IncompleteCandidateConsumesNothing := by
  intro noise tail hn ht
  rw [List.append_assoc]
  exact tryParse_of_incomplete hn ht

theorem two_le_length_of_findHeader {b : Bytes} {h : Nat} (hh : findHeader b = some h) : 2 ≤ b.length := by
  obtain ⟨rest, hdrop⟩ := drop_of_findHeader hh
  have hlength := congrArg List.length hdrop
  simp only [List.length_drop, List.length_cons] at hlength
  omega

/-- R138: without a header a parse consumes all bytes or all but one. -/
theorem noHeaderConsumed_eq (b : Bytes) : noHeaderConsumed b = b.length ∨ noHeaderConsumed b + 1 = b.length := by
  have hle := noHeaderConsumed_le b
  obtain hleft | hleft := drop_noHeaderConsumed b
  all_goals
    have hlength := congrArg List.length hleft
    rw [List.length_drop] at hlength
  · exact .inl (Nat.le_antisymm hle (Nat.sub_eq_zero_iff_le.mp hlength))
  · exact .inr (by rw [List.length_singleton] at hlength; omega)

/-- Settles O17, outcome by outcome. -/
theorem consumedStaysInBounds : Obligations.ConsumedStaysInBounds := by
  intro b
  obtain ⟨-, hp⟩ | ⟨h, hh, -, hp⟩ | ⟨h, -, hlen, -, hp⟩ | ⟨h, -, hlen, -, hp⟩ := tryParse_cases b
  · simpa [hp] using ⟨noHeaderConsumed_eq b, noHeaderConsumed_le b⟩
  · simpa [hp] using two_le_length_of_findHeader hh
  all_goals
    simp only [hp]
    exact ⟨fun _ => by omega, nofun, nofun, by omega, fun _ => by omega⟩

/-! ## DRAIN and the segmentation, without their fuel (R141, R144) -/

/-- R141: every turn that takes a candidate shortens `RXBUF`. -/
theorem length_parseStep_lt {s : State} (h : (tryParse s.rxbuf).TakesCandidate) :
    s.parseStep.rxbuf.length < s.rxbuf.length := by
  obtain ⟨-, hsix, hle⟩ | ⟨hstops, -⟩ := tryParse_takesCandidate_or_stops s.rxbuf
  · rw [State.parseStep_rxbuf, List.length_drop]
    omega
  · exact absurd hstops h.not_stops

/-- R141: more fuel than bytes changes nothing. -/
theorem drainFuel_eq_of_length_lt {n m : Nat} {s : State} (hn : s.rxbuf.length < n) (hm : s.rxbuf.length < m) :
    drainFuel n s = drainFuel m s := by
  induction n generalizing m s with
  | zero => omega
  | succ n ih =>
    obtain ⟨m, rfl⟩ := Nat.exists_eq_succ_of_ne_zero (Nat.ne_of_gt (Nat.zero_lt_of_lt hm))
    obtain ⟨h, -⟩ | ⟨h, -⟩ := tryParse_takesCandidate_or_stops s.rxbuf
    · have hshorter := length_parseStep_lt h
      rw [drainFuel_succ_of_takesCandidate h, drainFuel_succ_of_takesCandidate h, ih (m := m) (by omega) (by omega)]
    · rw [drainFuel_succ_of_stops h, drainFuel_succ_of_stops h]

theorem drain_of_takesCandidate {s : State} (h : (tryParse s.rxbuf).TakesCandidate) :
    s.drain = ((tryParse s.rxbuf).events ++ s.parseStep.drain.1, s.parseStep.drain.2) := by
  rw [State.drain, drainFuel_succ_of_takesCandidate h,
    drainFuel_eq_of_length_lt (length_parseStep_lt h) (Nat.lt_succ_self _)]
  rfl

theorem drain_of_stops {s : State} (h : (tryParse s.rxbuf).Stops) : s.drain = ([], s.parseStep) :=
  drainFuel_succ_of_stops h _

/-- R141: what holds where DRAIN returns, and before a turn of DRAIN if it holds after it, holds of every state. -/
theorem drain_induction {motive : State → Prop} (s : State)
    (takes : ∀ s, (tryParse s.rxbuf).TakesCandidate → motive s.parseStep → motive s)
    (stops : ∀ s, (tryParse s.rxbuf).Stops → motive s) : motive s := by
  induction hlength : s.rxbuf.length using Nat.strong_induction_on generalizing s with
  | _ n ih =>
    subst hlength
    obtain ⟨h, -⟩ | ⟨h, -⟩ := tryParse_takesCandidate_or_stops s.rxbuf
    · exact takes s h (ih _ (length_parseStep_lt h) _ rfl)
    · exact stops s h

theorem segment_of_stops {b : Bytes} (h : (tryParse b).Stops) : segment b = [] := segmentFuel_succ_of_stops h _

/-- R141, R144: the segmentation is the event of the leftmost candidate, then the segmentation behind it: a turn of
DRAIN on a state that holds these bytes. -/
theorem segment_of_takesCandidate {b : Bytes} (h : (tryParse b).TakesCandidate) :
    segment b = (tryParse b).events ++ segment (b.drop (tryParse b).consumed) := by
  have hdrain := congrArg Prod.fst (drain_of_takesCandidate (s := { State.reset with rxbuf := b }) h)
  simpa only [drain_events, State.parseStep_rxbuf] using hdrain

/-! ## What a drain leaves (R141) -/

theorem drain_rxbuf_suffix (s : State) : s.drain.2.rxbuf <:+ s.rxbuf := by
  induction s using drain_induction with
  | takes s h ih =>
    rw [drain_of_takesCandidate h]
    exact ih.trans (List.drop_suffix _ _)
  | stops s h =>
    rw [drain_of_stops h]
    exact List.drop_suffix _ _

theorem drain_stops (s : State) : (tryParse s.drain.2.rxbuf).Stops := by
  induction s using drain_induction with
  | takes s h ih => rwa [drain_of_takesCandidate h]
  | stops s h =>
    rw [drain_of_stops h]
    exact stops_drop_consumed h

/-- Settles O20: the events, the suffix and the stop by induction on the turns of DRAIN. -/
theorem drainGivesTheCanonicalSegmentation : Obligations.DrainGivesTheCanonicalSegmentation :=
  fun s => ⟨drain_events s, drain_rxbuf_suffix s, drain_stops s, drain_eq s⟩

/-! ## Bytes that come later (R144) -/

/-- R138, R144: bytes that begin no header have no part in the segmentation. -/
theorem segment_of_noHeaderBefore {b : Bytes} {n : Nat} (hn : NoHeaderBefore b n) : segment b = segment (b.drop n) := by
  obtain ⟨h, -⟩ | ⟨h, -⟩ := tryParse_takesCandidate_or_stops (b.drop n)
  · have hp := tryParse_of_noHeaderBefore hn h
    have hb : (tryParse b).TakesCandidate := by rw [hp]; exact h
    rw [segment_of_takesCandidate hb, segment_of_takesCandidate h, hp, List.drop_drop]
    rfl
  · rw [segment_of_stops h, segment_of_stops (stops_of_noHeaderBefore hn h)]

/-- R144: a parse that stops consumes nothing that the bytes to come could complete. -/
theorem segment_append_of_stops {b : Bytes} (h : (tryParse b).Stops) (more : Bytes) :
    segment (b ++ more) = segment (b.drop (tryParse b).consumed ++ more) := by
  obtain ⟨hh, hp⟩ | ⟨_, -, -, hp⟩ := tryParse_cases_of_stops h
  · rw [hp, segment_of_noHeaderBefore (noHeaderBefore_noHeaderConsumed hh more),
      List.drop_append_of_le_length (noHeaderConsumed_le b)]
  · rw [hp, List.drop_zero]

/-- R144: a drain gives the first events of the stream, and leaves bytes that give the others with what comes later. -/
theorem segment_append_eq_drain (s : State) (more : Bytes) :
    segment (s.rxbuf ++ more) = s.drain.1 ++ segment (s.drain.2.rxbuf ++ more) := by
  induction s using drain_induction with
  | takes s h ih =>
    obtain ⟨-, -, hle⟩ | ⟨hstops, -⟩ := tryParse_takesCandidate_or_stops s.rxbuf
    · have hp := tryParse_append h more
      rw [segment_of_takesCandidate (by rwa [hp]), hp, List.drop_append_of_le_length hle, drain_of_takesCandidate h,
        List.append_assoc, ← ih]
      rfl
    · exact absurd hstops h.not_stops
  | stops s h =>
    rw [drain_of_stops h, segment_append_of_stops h]
    rfl

/-- R144: from a drained buffer, the events of all drains are the segmentation of that buffer and the stream. -/
theorem feedDrain_events {s : State} {chunks : List Bytes} (hs : (tryParse s.rxbuf).Stops) (hfit : PushesFit s chunks) :
    (feedDrain s chunks).1 = segment (s.rxbuf ++ chunks.flatten) := by
  induction chunks generalizing s with
  | nil => simp [feedDrain, segment_of_stops hs]
  | cons c cs ih =>
    obtain ⟨hc, hcs⟩ := hfit
    rw [feedDrain, rxPush_of_fits hc]
    dsimp only
    rw [ih (drain_stops _) hcs, ← segment_append_eq_drain, List.flatten_cons, List.append_assoc]

/-- Settles O21: an empty buffer is drained, so `feedDrain_events` applies from the first push on. -/
theorem eventsDoNotDependOnChunking : Obligations.EventsDoNotDependOnChunking := by
  intro s chunks hs hfit
  rw [feedDrain_events (by rw [hs]; exact .inr rfl) hfit, hs, List.nil_append]

/-! ## A valid frame behind noise and in chunks (R142, R143) -/

/-- R116 (d), R117: a valid frame alone is delivered and consumed. -/
theorem tryParse_of_validFrame {f : Bytes} (hf : validFrame f = true) :
    ∃ fr, tryParse f = ⟨some fr, f.length, .frameOk⟩ := by
  obtain ⟨addr, cmd, payload, hp, rfl⟩ := (validFrame_iff f).mp hf
  exact ⟨_, by rw [tryParse_frameBytes hp, length_frameBytes]⟩

/-- Settles O19: the first turn of DRAIN takes the corrupted frame with the noise, the second the valid frame. -/
theorem resynchronisation : Obligations.Resynchronisation := by
  intro s noise payload f addr cmd x hn hp hx hf hs
  obtain ⟨fr, hframe⟩ := tryParse_of_validFrame hf
  have hbad : tryParse s.rxbuf = ⟨none, noise.length + (6 + payload.length), .sumError⟩ := by
    rw [hs, tryParse_of_wrong_sum hn hp hx]
  have hleft : s.parseStep.rxbuf = f := by
    rw [State.parseStep_rxbuf, hbad, hs]
    exact List.drop_left' (by rw [List.length_append, length_framePrefix_append])
  have hnothing : s.parseStep.parseStep.rxbuf = [] := by
    rw [State.parseStep_rxbuf, hleft, hframe]
    exact List.drop_length ..
  have hdrain : s.drain = ([.discard, .frame fr], s.parseStep.parseStep.parseStep) := by
    rw [drain_of_takesCandidate (.inr (by rw [hbad])), drain_of_takesCandidate (.inl (by rw [hleft, hframe])),
      drain_of_stops (by rw [hnothing]; exact .inr rfl), hbad, hleft, hframe]
    rfl
  refine ⟨fr, hframe, hbad, by rw [hleft, hframe], by rw [hdrain], ?_⟩
  rw [hdrain, State.parseStep_rxbuf, hnothing, List.drop_nil]

/-- R136, R137: from its second byte to its last but one a valid frame is an incomplete candidate. -/
theorem tryParse_take_of_two_le {f : Bytes} (hf : validFrame f = true) {k : Nat} (htwo : 2 ≤ k) (hk : k < f.length) :
    tryParse (f.take k) = ⟨none, 0, .incomplete⟩ := by
  obtain ⟨addr, cmd, payload, hp, rfl⟩ := (validFrame_iff f).mp hf
  rw [length_frameBytes] at hk
  obtain ⟨k, rfl⟩ := Nat.exists_eq_add_of_le' htwo
  refine tryParse_of_incomplete (noise := []) (tail := ((frameBytes addr cmd payload).drop 2).take k) rfl ?_
  by_cases hlen : k < 3
  · exact .inl ((List.length_take_le ..).trans_lt hlen)
  · refine .inr ⟨BitVec.ofNat 8 payload.length, ?_, ?_⟩
    · rw [List.getElem?_take_of_lt (by omega)]
      rfl
    · rw [toNat_len_of_le hp]
      exact (List.length_take_le ..).trans_lt (by omega)

/-- R138, D4: the first byte of a valid frame is kept. -/
theorem tryParse_take_one {f : Bytes} (hf : validFrame f = true) : tryParse (f.take 1) = ⟨none, 0, .noHeader⟩ := by
  obtain ⟨addr, cmd, payload, -, rfl⟩ := (validFrame_iff f).mp hf
  rfl

/-- R142: fewer bytes than a valid frame has give no event, and all of them are kept. -/
theorem tryParse_of_prefix {f p : Bytes} (hf : validFrame f = true) (hp : p <+: f) (hlt : p.length < f.length) :
    (tryParse p).consumed = 0 ∧ (tryParse p).events = [] := by
  rw [List.prefix_iff_eq_take.mp hp]
  obtain hzero | hone | htwo : p.length = 0 ∨ p.length = 1 ∨ 2 ≤ p.length := by omega
  · rw [hzero]
    exact ⟨rfl, rfl⟩
  · rw [hone, tryParse_take_one hf]
    exact ⟨rfl, rfl⟩
  · rw [tryParse_take_of_two_le hf htwo hlt]
    exact ⟨rfl, rfl⟩

/-- R142: chunks that do not complete a valid frame give no event and stay in the buffer. -/
theorem feedParse_of_prefix {f b : Bytes} {chunks : List Bytes} (hf : validFrame f = true)
    (hp : b ++ chunks.flatten <+: f) (hlt : (b ++ chunks.flatten).length < f.length) :
    (feedParse b chunks).1.flatMap ParseResult.events = [] ∧ (feedParse b chunks).2 = b ++ chunks.flatten := by
  induction chunks generalizing b with
  | nil => simp [feedParse]
  | cons c cs ih =>
    rw [List.flatten_cons, ← List.append_assoc] at hp hlt ⊢
    have hle : (b ++ c).length ≤ (b ++ c ++ cs.flatten).length := (List.prefix_append ..).length_le
    obtain ⟨hconsumed, hevents⟩ := tryParse_of_prefix hf ((List.prefix_append ..).trans hp) (hle.trans_lt hlt)
    obtain ⟨ihevents, ihleft⟩ := ih hp hlt
    simp only [feedParse, hconsumed, List.drop_zero, List.flatMap_cons, hevents, ihevents, ihleft, List.append_nil,
      and_self]

/-- R142: chunks that complete a valid frame give it once, and nothing is left. -/
theorem feedParse_of_complete {f b : Bytes} {fr : Frame} {chunks : List Bytes} (hf : validFrame f = true)
    (hfr : tryParse f = ⟨some fr, f.length, .frameOk⟩) (hb : b.length < f.length) (hall : b ++ chunks.flatten = f) :
    (feedParse b chunks).1.flatMap ParseResult.events = [.frame fr] ∧ (feedParse b chunks).2 = [] := by
  induction chunks generalizing b with
  | nil =>
    rw [List.flatten_nil, List.append_nil] at hall
    exact absurd hb (by rw [hall]; exact lt_irrefl _)
  | cons c cs ih =>
    rw [List.flatten_cons, ← List.append_assoc] at hall
    have hp : b ++ c <+: f := ⟨_, hall⟩
    obtain hlt | hlength := hp.length_le.lt_or_eq
    · obtain ⟨hconsumed, hevents⟩ := tryParse_of_prefix hf hp hlt
      obtain ⟨ihevents, ihleft⟩ := ih hlt hall
      simp only [feedParse, hconsumed, List.drop_zero, List.flatMap_cons, hevents, ihevents, ihleft, List.nil_append,
        and_self]
    · have hwhole : b ++ c = f := hp.eq_of_length hlength
      have hrest : cs.flatten = [] := by simpa [hwhole] using hall
      have hpos : ([] ++ cs.flatten : Bytes).length < f.length := by rw [hrest]; exact Nat.zero_lt_of_lt hb
      obtain ⟨hevents, hleft⟩ := feedParse_of_prefix (b := []) hf (by rw [hrest]; exact List.nil_prefix) hpos
      rw [hrest] at hleft
      simp only [feedParse, hwhole, hfr, List.drop_length, List.flatMap_cons, hevents, hleft, ParseResult.events,
        List.append_nil, and_self]

/-- Settles O18: parse by parse for the first bytes of the frame, chunk by chunk for the fed buffer. -/
theorem partialBufferSafety : Obligations.PartialBufferSafety := by
  intro f hf
  obtain ⟨fr, hfr⟩ := tryParse_of_validFrame hf
  have hpos : 0 < f.length := by
    rw [(fills_of_validFrame hf).2]
    omega
  refine ⟨rfl, tryParse_take_one hf, fun k htwo hk => tryParse_take_of_two_le hf htwo hk, fr, hfr,
    fun chunks hall => feedParse_of_complete hf hfr hpos hall, fun chunks k hk hpart => ?_⟩
  rw [← hpart]
  refine feedParse_of_prefix hf (by rw [List.nil_append, hpart]; exact List.take_prefix ..) ?_
  rw [List.nil_append, hpart, List.length_take_of_le hk.le]
  exact hk

/-! ## The byte-serial parser (R150, R151) -/

/-- R150: the bytes that the registers stand for: those of the candidate so far. -/
def SerialRegs.pending (r : SerialRegs) : Bytes :=
  match r.ph with
  | .hunt0 => []
  | .hunt1 => [hdr0]
  | .addr => [hdr0, hdr1]
  | .cmd => [hdr0, hdr1, r.fAddr]
  | .len => [hdr0, hdr1, r.fAddr, r.fCmd]
  | .data | .sum => [hdr0, hdr1, r.fAddr, r.fCmd, r.fLen] ++ r.pay

/-- R150: the bytes pending are no whole candidate. -/
theorem pending_stops {r : SerialRegs} (hr : r.Ok) : (tryParse r.pending).Stops := by
  have hshort : ∀ tail : Bytes, tail.length < 3 ∨ (∃ len, tail[2]? = some len ∧ tail.length < 4 + len.toNat) →
      (tryParse (hdr0 :: hdr1 :: tail)).Stops := fun tail ht =>
    .inl (by rw [← List.nil_append (hdr0 :: _), tryParse_of_incomplete rfl ht])
  cases hph : r.ph <;> simp only [SerialRegs.pending, SerialRegs.Ok, hph] at hr ⊢
  case hunt0 | hunt1 => exact .inr rfl
  case addr | cmd | len => exact hshort _ (.inl (by simp))
  case data =>
    obtain ⟨-, hcnt, hlt⟩ := hr
    exact hshort _ (.inr ⟨r.fLen, rfl, by simp; omega⟩)
  case sum =>
    obtain ⟨-, hlen⟩ := hr
    exact hshort _ (.inr ⟨r.fLen, rfl, by simp; omega⟩)

/-- R144: the segmentation of a candidate and the bytes behind it. -/
theorem segment_framePrefix_cons {payload : Bytes} (hp : payload.length ≤ maxPayload) (addr cmd sum : Byte)
    (rest : Bytes) :
    segment (framePrefix addr cmd payload ++ sum :: rest) =
      (if sum8 (framePrefix addr cmd payload) = sum then
        .frame ⟨hdr0 ++ hdr1, addr, cmd, BitVec.ofNat 8 payload.length, payload, sum⟩
      else .discard) :: segment rest := by
  have hparse : tryParse (framePrefix addr cmd payload ++ sum :: rest) = _ :=
    tryParse_of_drop (h := 0) (findHeader_noise_append (noise := []) rfl _) hp List.drop_zero
  have hrest : (framePrefix addr cmd payload ++ sum :: rest).drop (0 + (6 + payload.length)) = rest := by
    rw [← List.singleton_append, ← List.append_assoc]
    exact List.drop_left' (by rw [length_framePrefix_append, Nat.zero_add])
  by_cases hsum : sum8 (framePrefix addr cmd payload) = sum
  · rw [if_pos hsum] at hparse ⊢
    rw [segment_of_takesCandidate (by rw [hparse]; exact .inl rfl), hparse, hrest]
    rfl
  · rw [if_neg hsum] at hparse ⊢
    rw [segment_of_takesCandidate (by rw [hparse]; exact .inr rfl), hparse, hrest]
    rfl

/-- R138, R144: a byte that is no first header byte, or no second one behind it, is skipped. -/
theorem segment_cons_of_not_header {x : Byte} {b : Bytes} (h : x ≠ hdr0 ∨ b.head? ≠ some hdr1) :
    segment (x :: b) = segment b := segment_of_noHeaderBefore (noHeaderBefore_one h)

/-- R150, R151: one byte moves from the stream to the pending bytes, or its event is the next of the segmentation. -/
theorem serialStep_segment {r : SerialRegs} (hr : r.Ok) (b : Byte) (bs : Bytes) :
    (serialStep r b).2.toList ++ segment ((serialStep r b).1.pending ++ bs) = segment (r.pending ++ b :: bs) := by
  obtain ⟨ph, fAddr, fCmd, fLen, cnt, pay, acc⟩ := r
  cases ph with
  | hunt0 =>
    by_cases hb : b = hdr0
    · subst hb
      rfl
    · simp only [serialStep, hb, if_false]
      exact (segment_cons_of_not_header (.inl hb)).symm
  | hunt1 =>
    by_cases hb1 : b = hdr1
    · subst hb1
      rfl
    have hskip : segment (hdr0 :: b :: bs) = segment (b :: bs) :=
      segment_cons_of_not_header (.inr fun h => hb1 (Option.some.inj h))
    by_cases hb0 : b = hdr0
    · subst hb0
      exact hskip.symm
    · simp only [serialStep, hb1, hb0, if_false]
      exact (hskip.trans (segment_cons_of_not_header (.inl hb0))).symm
  | addr | cmd => rfl
  | len => by_cases hb : b = 0#8 <;> simp [serialStep, SerialRegs.pending, hb]
  | data => by_cases hlast : cnt + 1 = fLen.toNat <;> simp [serialStep, SerialRegs.pending, hlast]
  | sum =>
    obtain ⟨hacc, hlen⟩ : acc = sum8 ([hdr0, hdr1, fAddr, fCmd, fLen] ++ pay) ∧ pay.length = fLen.toNat := hr
    have hprefix : framePrefix fAddr fCmd pay = [hdr0, hdr1, fAddr, fCmd, fLen] ++ pay := by
      rw [framePrefix, hlen, BitVec.ofNat_toNat, BitVec.setWidth_eq]
    have hp : pay.length ≤ maxPayload := hlen.trans_le (Nat.le_of_lt_succ fLen.isLt)
    have hsegment := segment_framePrefix_cons hp fAddr fCmd b bs
    rw [hprefix, ← hacc, hlen, BitVec.ofNat_toNat, BitVec.setWidth_eq] at hsegment
    simp only [serialStep, SerialRegs.pending, Option.toList_some, List.nil_append, List.singleton_append, hsegment,
      eq_comm (a := b)]

/-- R151: from any phase, the events are the segmentation of the pending bytes and the stream. -/
theorem serialRun_events {r : SerialRegs} (hr : r.Ok) (b : Bytes) : (serialRun r b).2 = segment (r.pending ++ b) := by
  induction b generalizing r with
  | nil => rw [List.append_nil, segment_of_stops (pending_stops hr)]; rfl
  | cons x xs ih =>
    rw [← serialStep_segment hr, ← ih (serialStep_ok hr x)]
    rfl

/-- Settles O22: at `HUNT0` no byte is pending. -/
theorem serialParserEmitsTheSegmentation : Obligations.SerialParserEmitsTheSegmentation := by
  intro r b hph
  rw [serialRun_events (by simp [SerialRegs.Ok, hph])]
  simp [SerialRegs.pending, hph]

/-! ## The step runs the decoded instruction (R133, R140, R297) -/

/-- R297 S1 to S5: the send step runs the request that the frame of `TXR` decodes to. -/
theorem sendStep_of_decode {s : State} {i : Instr} {rest : Bytes} (hp : s.txr.payload.length ≤ maxPayload)
    (hd : decode s.par (frameBytes s.txr.addr s.txr.cmd s.txr.payload) = .instr i rest) (hi : i.isResponse = false) :
    sendStep s = exec i s := by
  simp only [sendStep, encodeFrame_eq_some_iff.mpr ⟨hp, rfl⟩, hd, hi, Bool.false_eq_true, if_false]

/-- R133, R140: PARSE_STEP where a frame is delivered. -/
theorem parseStep_of_frame {s : State} {f : Frame} (hf : (tryParse s.rxbuf).frame = some f) :
    s.parseStep = { s with rxbuf := s.rxbuf.drop (tryParse s.rxbuf).consumed, fr := ⟨true, f⟩ } := by
  simp only [State.parseStep, State.loadFr, hf]

/-- R301: a frame that does not correlate is dropped. -/
theorem respond_of_not_correlate {addr cmd : Byte} {s : State}
    (h : ∀ p, s.pend = some p → correlate s.par p addr cmd = false) (r : Reply) : respond addr cmd r s = .next s := by
  obtain ⟨p, hp, hc, -⟩ | ⟨-, heq⟩ := respond_cases (rfl : respond addr cmd r s = _)
  · rw [h p hp] at hc
    cases hc
  · exact heq

/-- R187, R297 S6: a response frame runs its instruction, by its row's handler, or because it is dropped either way. -/
theorem takeFrame_of_response {s : State} {f : Frame} {i : Instr} (hd : decodeFrame s.par f = some i)
    (hi : i.isResponse = true) (haddr : i.addr = f.addr) (hcmd : instrCmd s.par i = f.cmd)
    (hown : ∀ p, s.pend = some p → correlate s.par p f.addr f.cmd = true → handlerOwns i.command s.hnd = true) :
    takeFrame f s = exec i s := by
  simp only [takeFrame, hd, hi, Bool.true_and]
  split
  · rfl
  · next hnot =>
    have hdropped : ∀ p, s.pend = some p → correlate s.par p f.addr f.cmd = false := fun p hp =>
      Bool.eq_false_iff.mpr fun hc => hnot (hown p hp hc)
    obtain ⟨r, hexec⟩ := exec_response_eq hi s
    rw [hexec, haddr, hcmd, respond_of_not_correlate hdropped, respond_of_not_correlate hdropped]

/-- Settles O23: FC's own move from each of the three positions. -/
theorem stepRunsTheDecodedInstruction : Obligations.StepRunsTheDecodedInstruction := by
  intro s₀ s i rest hturn
  obtain ⟨-, hcodes, -⟩ := s.par.wf_iff.mp (by rw [turn_par hturn]; exact hturn.1)
  rw [step_of_turn hturn]
  refine ⟨fun hpos hp hd hi => ?send, fun hpos hd hi hown => ?parse, fun hpos hr hp ho hw => ?direct⟩
  case send =>
    have hmove : moveStep s = sendStep s := by rw [moveStep, hpos]
    exact hmove.trans (sendStep_of_decode hp hd hi)
  case parse =>
    obtain ⟨f, hf, hfields, hrest⟩ := (decode_eq_instr_iff_tryParse _ _ _ _).mp hd
    obtain ⟨hp, -⟩ := drop_eq_frameBytes_of_tryParse hf
    obtain ⟨-, haddr, hcmd, hdata⟩ := (decodeFields_eq_some_iff_fields hcodes hp i).mp hfields
    refine ⟨f, hf, haddr.symm, hcmd.symm, hdata.symm, ?_⟩
    have hmove : moveStep s = parsePosStep s := by rw [moveStep, hpos]
    simp only [hmove, parsePosStep, hf, parseStep_of_frame hf, hrest]
    rw [haddr, hcmd] at hown
    exact takeFrame_of_response hfields hi haddr hcmd hown
  case direct =>
    have hmove : moveStep s = transmitTxr s := by rw [moveStep, hpos]
    exact hmove.trans (transmit_sent hr hp ho hw)

end Sys2Proof.Machine

/-! # Proofs for spec/42_commands.md: requests, responses and typed operations (R160 to R187, R206, R297 to R316) -/

namespace Sys2Proof.Machine

/-! ## Requests (R166 to R184, R297 S1 to S5) -/

/-- Settles O24: each of the eight requests is S1 to S5 of TRANSACT with its own code, DATA and handler. -/
theorem plainRequestsAreSent : Obligations.PlainRequestsAreSent := by
  intro s addr data hready hlen hopen hwrite
  have hsent (cmd : Byte) {payload : Bytes} (hp : payload.length ≤ maxPayload) (h : Handler) :
      transmit addr cmd payload h s = .next (s.sent addr cmd payload h) := transmit_sent hready hp hopen hwrite
  have hempty : ([] : Bytes).length ≤ maxPayload := Nat.zero_le _
  exact ⟨hsent _ hempty _, hsent _ hlen _, hsent _ hlen _, hsent _ hlen _, hsent _ hempty _, hsent _ hlen _,
    hsent _ hempty _, hsent _ hempty _⟩

/-! ## Correlation (R163, R164, R301) -/

/-- R163, R164: CORRELATE compares the code, and the address where `CORR_ADDR` asks for it. -/
theorem correlate_iff {par : Params} {p : Pending} {addr cmd : Byte} :
    correlate par p addr cmd = true ↔ cmd = respCode p.cmd ∧ (par.corrAddr = true → addr = p.addr) := by
  cases h : par.corrAddr <;> simp [correlate, h]

theorem not_correlate_of_mismatch {par : Params} {p : Pending} {addr cmd : Byte}
    (h : cmd ≠ respCode p.cmd ∨ (par.corrAddr = true ∧ addr ≠ p.addr)) : correlate par p addr cmd = false := by
  refine Bool.eq_false_iff.mpr fun hc => ?_
  obtain ⟨hcmd, haddr⟩ := correlate_iff.mp hc
  obtain hne | ⟨hon, hne⟩ := h
  · exact hne hcmd
  · exact hne (haddr hon)

/-- R163, R306: a frame that correlates ends the transaction with the reply. -/
theorem respond_of_correlate {addr cmd : Byte} {s : State} {p : Pending} (hp : s.pend = some p)
    (hc : correlate s.par p addr cmd = true) (r : Reply) : respond addr cmd r s = .next (s.ended r) := by
  obtain ⟨-, -, -, heq⟩ | ⟨hnot, -⟩ := respond_cases (rfl : respond addr cmd r s = _)
  · exact heq
  · rw [hnot p hp] at hc
    cases hc

/-- R163, R306: the response code of the command that is awaited ends the transaction. -/
theorem respond_of_awaits {addr : Byte} {k : Command} {s : State} (h : s.Awaits k addr) (r : Reply) :
    respond addr (respCode (s.par.code k)) r s = .next (s.ended r) := by
  obtain ⟨a, hp, haddr⟩ := h
  exact respond_of_correlate hp (correlate_iff.mpr ⟨rfl, haddr⟩) r

/-- Settles O34: a response instruction responds with its own ADDR and CMD, and these do not correlate. -/
theorem uncorrelatedResponsesAreDropped : Obligations.UncorrelatedResponsesAreDropped := by
  intro s i hi hmismatch
  obtain ⟨r, hexec⟩ := exec_response_eq hi s
  rw [hexec, respond_of_not_correlate fun p hp => not_correlate_of_mismatch (hmismatch p hp)]

/-! ## A delivered frame and its handler (R187, R297 S6, S9, R303) -/

/-- R187: the handler of a command that answers with a record of its own. -/
theorem handlerOwns_getInfo_iff {h : Handler} : handlerOwns .getInfo h = true ↔ h = .info := by
  cases h <;> simp [handlerOwns]

theorem handlerOwns_getParaCfg_iff {h : Handler} : handlerOwns .getParaCfg h = true ↔ h = .config := by
  cases h <;> simp [handlerOwns]

theorem handlerOwns_getUsbString_iff {h : Handler} :
    handlerOwns .getUsbString h = true ↔ ∃ slot, h = .usbString slot := by
  cases h <;> simp [handlerOwns]

/-- R187: every other command has the STATUS_CHECK handler. -/
theorem eq_status_of_handlerOwns {k : Command} {h : Handler} (hown : handlerOwns k h = true) (hinfo : k ≠ .getInfo)
    (hcfg : k ≠ .getParaCfg) (hstr : k ≠ .getUsbString) : h = .status := by
  unfold handlerOwns at hown
  split at hown <;> simp_all

/-- R187: where the transaction has the handler of its row, a response instruction responds with what that handler makes
of its DATA. -/
theorem exec_eq_respond_handleReply {i : Instr} (hi : i.isResponse = true) {s : State}
    (hown : handlerOwns i.command s.hnd = true) :
    exec i s = respond i.addr (instrCmd s.par i) (handleReply s.par s.hnd i.data) s := by
  cases i with
  | rspGetInfo =>
    rw [handlerOwns_getInfo_iff.mp hown]
    rfl
  | rspGetParaCfg =>
    rw [handlerOwns_getParaCfg_iff.mp hown]
    rfl
  | rspGetUsbString =>
    obtain ⟨slot, hslot⟩ := handlerOwns_getUsbString_iff.mp hown
    simp only [exec, execRspGetUsbString, hslot]
    rfl
  | rspSendKbGeneral | rspSendMsAbs | rspSendMsRel | rspSetParaCfg | rspSetUsbString | rspSetDefaultCfg | rspReset =>
    rw [eq_status_of_handlerOwns hown nofun nofun nofun]
    rfl
  | reqGetInfo | reqSendKbGeneral | reqSendMsAbs | reqSendMsRel | reqGetParaCfg | reqSetParaCfg | reqGetUsbString
  | reqSetUsbString | reqSetDefaultCfg | reqReset => cases hi

/-- R297 S6, S9: a delivered frame of any code is matched against `PEND` by its own ADDR and CMD, with what the
transaction's handler makes of its payload. -/
theorem takeFrame_eq_respond_handleReply {s : State} (hc : s.par.codesOk = true) {f : Frame}
    (hp : f.payload.length ≤ maxPayload) :
    takeFrame f s = respond f.addr f.cmd (handleReply s.par s.hnd f.payload) s := by
  unfold takeFrame
  split
  · next i hdecode =>
    split
    · next hrun =>
      obtain ⟨hi, hown⟩ := Bool.and_eq_true_iff.mp hrun
      obtain ⟨-, haddr, hcmd, hdata⟩ := (decodeFields_eq_some_iff_fields hc hp i).mp hdecode
      rw [exec_eq_respond_handleReply hi hown, haddr, hcmd, hdata]
    · rfl
  · rfl

/-- Settles O36: S6 takes the frame from `RXBUF`, and what it is matched with is the handler's reply. -/
theorem correlatedFramesGoToTheHandler : Obligations.CorrelatedFramesGoToTheHandler := by
  intro s₀ s p f hturn hpos hpend hf hcmd haddr
  obtain ⟨-, hcodes, -⟩ := s.par.wf_iff.mp (by rw [turn_par hturn]; exact hturn.1)
  obtain ⟨hp, -⟩ := drop_eq_frameBytes_of_tryParse hf
  have hmove : moveStep s = takeFrame f s.parseStep := by simp only [moveStep, hpos, parsePosStep, hf]
  have hcorr : correlate s.parseStep.par p f.addr f.cmd = true := by simpa using correlate_iff.mpr ⟨hcmd, haddr⟩
  rw [step_of_turn hturn, hmove, takeFrame_eq_respond_handleReply (by simpa using hcodes) hp,
    respond_of_correlate (by simpa using hpend) hcorr, parseStep_of_frame hf]

/-! ## STATUS_CHECK and INFO_DECODE as replies (R167, R186, R262) -/

/-- Settles O30: all seven respond with STATUS_CHECK of their payload. -/
theorem statusResponsesEndTheTransaction : Obligations.StatusResponsesEndTheTransaction :=
  fun s _ data => ⟨statusCheck s.par data, statusReplyIs_statusCheck s.par data,
    fun h => respond_of_awaits h _, fun h => respond_of_awaits h _, fun h => respond_of_awaits h _,
    fun h => respond_of_awaits h _, fun h => respond_of_awaits h _, fun h => respond_of_awaits h _,
    fun h => respond_of_awaits h _⟩

theorem infoReply_of_length_eq {par : Params} {data : Bytes} (h : data.length = par.infoSize) :
    infoReply par data = .ok (.info
      ⟨byteAt data par.infoLayout.version,
       byteAt data par.infoLayout.usb != 0x00#8,
       (byteAt data par.infoLayout.locks).getLsbD par.infoLayout.numBit,
       (byteAt data par.infoLayout.locks).getLsbD par.infoLayout.capsBit,
       (byteAt data par.infoLayout.locks).getLsbD par.infoLayout.scrollBit⟩) := by
  simp [infoReply, infoDecode, h]

theorem infoReply_of_length_ne {par : Params} {data : Bytes} (h : data.length ≠ par.infoSize) :
    infoReply par data = .soft (.deviceRejected (.decode .badLength)) := by
  simp [infoReply, infoDecode, h]

/-- Settles O31: the get-info response responds with INFO_DECODE of its payload. -/
theorem getInfoResponseEndsTheTransaction : Obligations.GetInfoResponseEndsTheTransaction := by
  intro s addr data hawaits
  have hexec : exec (.rspGetInfo addr data) s = .next (s.ended (infoReply s.par data)) := respond_of_awaits hawaits _
  refine ⟨fun hlen => ?_, fun hlen => ?_⟩
  · rw [hexec, infoReply_of_length_eq hlen]
    rfl
  · rw [hexec, infoReply_of_length_ne hlen]

/-! ## ZSTRIP and ZPAD (R214, R215) -/

/-- R215: what ZSTRIP takes away is zeros. -/
theorem exists_zstrip_append_zeros (raw : Bytes) : ∃ n, raw = zstrip raw ++ rep 0x00#8 n := by
  induction raw with
  | nil => exact ⟨0, rfl⟩
  | cons b bs ih =>
    obtain ⟨n, hn⟩ := ih
    cases hz : zstrip bs with
    | nil =>
      have hcons : zstrip (b :: bs) = if b = 0x00#8 then [] else [b] := by simp only [zstrip, hz]
      rw [hz, List.nil_append] at hn
      rw [hcons, hn]
      split
      · next hb => exact ⟨n + 1, by rw [hb]; rfl⟩
      · exact ⟨n, rfl⟩
    | cons c cs =>
      have hcons : zstrip (b :: bs) = b :: zstrip bs := by simp only [zstrip, hz]
      exact ⟨n, by rw [hcons, List.cons_append, ← hn]⟩

/-- R214: ZPAD to a width the bytes do not pass adds zeros only. -/
theorem zpad_length_add (b : Bytes) (n : Nat) : zpad b (b.length + n) = b ++ rep 0x00#8 n := by
  cases n with
  | zero => simp [zpad, rep]
  | succ n => simp [zpad]

/-- R214, R215: padding to the old width gives back what was stripped. -/
theorem zpad_zstrip (raw : Bytes) : zpad (zstrip raw) raw.length = raw := by
  obtain ⟨n, hn⟩ := exists_zstrip_append_zeros raw
  have hlen : raw.length = (zstrip raw).length + n := by
    conv_lhs => rw [hn]
    simp [rep]
  rw [hlen, zpad_length_add, ← hn]

/-! ## One component of DeviceConfig (R202, R206) -/

/-- R201, R202: the component is one byte, not a byte vector. -/
def IsByteField : CfgField → Prop
  | .workMode | .serialMode | .chipAddr | .autoEnter | .descEnable | .fastSubmit => True
  | .addrRsvd | .baud | .packetInterval | .vid | .pid | .kbSubmitInterval | .kbReleaseDelay | .enterChars | .filter
  | .tailRsvd => False

/-- R202: a component holds the bytes put there; a one-byte component takes one byte. -/
theorem cfgRaw_cfgPut_same (c : DeviceConfig) {f : CfgField} {raw : Bytes} (h : IsByteField f → raw.length = 1) :
    cfgRaw (cfgPut c f raw) f = raw := by
  cases f with
  | workMode | serialMode | chipAddr | autoEnter | descEnable | fastSubmit =>
    obtain ⟨b, rfl⟩ := List.length_eq_one_iff.mp (h trivial)
    rfl
  | addrRsvd | baud | packetInterval | vid | pid | kbSubmitInterval | kbReleaseDelay | enterChars | filter
  | tailRsvd => rfl

/-- R202: the other components stay; of two equal components there is nothing to show. -/
theorem cfgRaw_cfgPut_of_ne (c : DeviceConfig) {f g : CfgField} (h : g ≠ f) (raw : Bytes) :
    cfgRaw (cfgPut c f raw) g = cfgRaw c g := by
  cases f <;> cases g <;> trivial

/-! ## What a legal `CFG_LAYOUT` gives (R12, R201) -/

/-- R12: no two rows hold one component. -/
theorem cfgLayout_pairwise_field_ne {par : Params} (h : par.cfgLayoutOk = true) :
    par.cfgLayout.Pairwise fun r r' => r.field ≠ r'.field := by
  simp only [Params.cfgLayoutOk, Bool.and_eq_true, List.all_eq_true, beq_iff_eq] at h
  obtain ⟨⟨hone, -⟩, -⟩ := h
  refine List.pairwise_map.mp (List.nodup_iff_count_le_one.mpr fun f => ?_)
  have hf : f ∈ allCfgFields := by cases f <;> decide
  rw [List.count, List.countP_map, List.countP_eq_length_filter]
  exact (hone f hf).le

/-- R12: every offset of the record lies in a row. -/
theorem cfgLayout_exists_covers {par : Params} (h : par.cfgLayoutOk = true) {o : Nat} (ho : o < par.cfgSize) :
    ∃ r ∈ par.cfgLayout, r.covers o = true := by
  obtain ⟨r, hr⟩ := List.length_eq_one_iff.mp (Params.covered_once_of_cfgLayoutOk h ho)
  exact ⟨r, List.mem_filter.mp (hr ▸ List.mem_singleton_self r)⟩

/-- R201: the row of a one-byte component is one byte wide and no string. -/
theorem row_of_isByteField {par : Params} (h : par.cfgLayoutOk = true) {r : CfgRow} (hr : r ∈ par.cfgLayout)
    (hb : IsByteField r.field) : r.width = 1 ∧ r.kind ≠ .zstr := by
  simp only [Params.cfgLayoutOk, Bool.and_eq_true, List.all_eq_true] at h
  obtain ⟨⟨-, hrows⟩, -⟩ := h
  obtain ⟨⟨hkind, hwidth⟩, -⟩ := hrows r hr
  unfold CfgField.kindFits at hkind
  split at hkind <;> simp_all [IsByteField, CfgRow.widthFits]

/-! ## Ranges of a payload (R16) -/

theorem length_memRead {b : Bytes} {i n : Nat} (h : i + n ≤ b.length) : (memRead b i n).length = n := by
  simp [memRead, slice]; omega

theorem length_memWrite (b : Bytes) (i : Nat) (v : Bytes) : (memWrite b i v).length = b.length := by
  unfold memWrite
  split
  · simp; omega
  · rfl

/-- R16: a range written with the same range of `data` agrees with `data` there and is unchanged elsewhere. -/
theorem getElem?_memWrite_memRead {b data : Bytes} {i n : Nat} (hb : b.length = data.length)
    (h : i + n ≤ data.length) (o : Nat) :
    (memWrite b i (memRead data i n))[o]? = if i ≤ o ∧ o < i + n then data[o]? else b[o]? := by
  have hlen : (b.take i).length = i := List.length_take_of_le (by omega)
  rw [memWrite, length_memRead h, if_pos (by omega), List.append_assoc]
  split
  · next hin =>
    rw [List.getElem?_append_right (by omega), List.getElem?_append_left (by rw [length_memRead h]; omega), hlen]
    simp only [memRead, slice, List.getElem?_drop, List.getElem?_take, show i + (o - i) = o by omega, if_pos hin.2]
  · next hout =>
    by_cases hlt : o < i
    · rw [List.getElem?_append_left (by omega), List.getElem?_take_of_lt hlt]
    · rw [List.getElem?_append_right (by omega), List.getElem?_append_right (by rw [length_memRead h]; omega), hlen,
        length_memRead h, List.getElem?_drop, show i + n + (o - i - n) = o by omega]

/-! ## CFG_ENCODE of CFG_DECODE (R206, R207, R222) -/

/-- R206: the bytes that one turn of CFG_DECODE's loop stores in its component. -/
def storedRaw (payload : Bytes) (r : CfgRow) : Bytes :=
  if r.kind = .zstr then zstrip (memRead payload r.offset r.width) else memRead payload r.offset r.width

theorem cfgDecodeRow_eq (payload : Bytes) (c : DeviceConfig) (r : CfgRow) :
    cfgDecodeRow payload c r = cfgPut c r.field (storedRaw payload r) := rfl

/-- R206: CFG_DECODE's loop leaves a component that no row holds. -/
theorem cfgRaw_foldl_cfgDecodeRow_of_forall_ne {payload : Bytes} {f : CfgField} {rows : List CfgRow}
    (h : ∀ r ∈ rows, f ≠ r.field) (c : DeviceConfig) :
    cfgRaw (rows.foldl (cfgDecodeRow payload) c) f = cfgRaw c f := by
  induction rows generalizing c with
  | nil => rfl
  | cons r rows ih =>
    rw [List.foldl_cons, ih fun r' hr' => h r' (List.mem_cons_of_mem _ hr'), cfgDecodeRow_eq,
      cfgRaw_cfgPut_of_ne c (h r List.mem_cons_self)]

/-- R206: CFG_DECODE's loop stores the range of every row in its component. -/
theorem cfgRaw_foldl_cfgDecodeRow_of_mem {payload : Bytes} {rows : List CfgRow}
    (hne : rows.Pairwise fun r r' => r.field ≠ r'.field)
    (hbyte : ∀ r ∈ rows, IsByteField r.field → (storedRaw payload r).length = 1) {r : CfgRow} (hr : r ∈ rows)
    (c : DeviceConfig) : cfgRaw (rows.foldl (cfgDecodeRow payload) c) r.field = storedRaw payload r := by
  induction rows generalizing c with
  | nil => cases hr
  | cons r' rows ih =>
    obtain ⟨hhead, htail⟩ := List.pairwise_cons.mp hne
    rw [List.foldl_cons]
    obtain rfl | hmem := List.mem_cons.mp hr
    · rw [cfgRaw_foldl_cfgDecodeRow_of_forall_ne hhead, cfgDecodeRow_eq]
      exact cfgRaw_cfgPut_same c (hbyte r List.mem_cons_self)
    · exact ih htail (fun q hq => hbyte q (List.mem_cons_of_mem _ hq)) hmem _

/-- R206: the component of every row of a decoded record holds the row's range, stripped for a string. -/
theorem cfgRaw_of_cfgDecode {par : Params} (h : par.cfgLayoutOk = true) {data : Bytes} {c : DeviceConfig}
    (hc : cfgDecode par data = some c) {r : CfgRow} (hr : r ∈ par.cfgLayout) :
    cfgRaw c r.field = storedRaw data r := by
  unfold cfgDecode at hc
  split at hc
  · cases hc
  · next hlen =>
    obtain rfl := Option.some.inj hc
    refine cfgRaw_foldl_cfgDecodeRow_of_mem (cfgLayout_pairwise_field_ne h) (fun q hq hb => ?_) hr cfgBlank
    obtain ⟨hwidth, hkind⟩ := row_of_isByteField h hq hb
    have hinside := Params.row_inside_of_cfgLayoutOk h hq
    rw [storedRaw, if_neg hkind, length_memRead (by omega), hwidth]

/-- R207, R222: one turn of CFG_ENCODE's loop writes the range that the component was decoded from. -/
theorem cfgEncodeRow_of_stored {data : Bytes} {c : DeviceConfig} {r : CfgRow}
    (hraw : cfgRaw c r.field = storedRaw data r) (hin : r.offset + r.width ≤ data.length) (b : Bytes) :
    cfgEncodeRow c b r = memWrite b r.offset (memRead data r.offset r.width) := by
  have hpad : zpad (zstrip (memRead data r.offset r.width)) r.width = memRead data r.offset r.width := by
    simpa only [length_memRead hin] using zpad_zstrip (memRead data r.offset r.width)
  rw [cfgEncodeRow, hraw, storedRaw]
  split
  · rw [hpad]
  · rfl

/-- R207: where every component is what its row's range of `data` decodes to, CFG_ENCODE's loop has `data` wherever its
rows cover it. -/
theorem getElem?_foldl_cfgEncodeRow {data : Bytes} {c : DeviceConfig} {rows : List CfgRow}
    (hinside : ∀ r ∈ rows, r.offset + r.width ≤ data.length)
    (hraw : ∀ r ∈ rows, cfgRaw c r.field = storedRaw data r) {b : Bytes} (hb : b.length = data.length) {o : Nat}
    (ho : b[o]? = data[o]? ∨ ∃ r ∈ rows, r.covers o = true) :
    (rows.foldl (cfgEncodeRow c) b)[o]? = data[o]? := by
  induction rows generalizing b with
  | nil => simpa using ho
  | cons r rows ih =>
    have hin := hinside r List.mem_cons_self
    have hrow := cfgEncodeRow_of_stored (hraw r List.mem_cons_self) hin b
    rw [List.foldl_cons, hrow]
    refine ih (fun q hq => hinside q (List.mem_cons_of_mem _ hq)) (fun q hq => hraw q (List.mem_cons_of_mem _ hq))
      ((length_memWrite _ _ _).trans hb) ?_
    rw [getElem?_memWrite_memRead hb hin]
    split
    · exact .inl rfl
    · next hout =>
      obtain heq | ⟨q, hq, hcov⟩ := ho
      · exact .inl heq
      · obtain rfl | hmem := List.mem_cons.mp hq
        · simp only [CfgRow.covers, Bool.and_eq_true, decide_eq_true_eq] at hcov
          exact absurd hcov hout
        · exact .inr ⟨q, hmem, hcov⟩

/-- R222: a decoded record encodes back to its bytes. -/
theorem cfgEncode_of_cfgDecode {par : Params} (h : par.cfgLayoutOk = true) {data : Bytes} {c : DeviceConfig}
    (hc : cfgDecode par data = some c) : cfgEncode par c = data := by
  have hlen : data.length = par.cfgSize := by
    by_contra hne
    simp [cfgDecode, hne] at hc
  refine List.ext_getElem? fun o => ?_
  refine getElem?_foldl_cfgEncodeRow (fun r hr => hlen ▸ Params.row_inside_of_cfgLayoutOk h hr)
    (fun r hr => cfgRaw_of_cfgDecode h hc hr) (by simp [rep, hlen]) ?_
  by_cases ho : o < par.cfgSize
  · exact .inr (cfgLayout_exists_covers h ho)
  · exact .inl (by simp [rep, hlen, ho])

/-- Settles O32: the get-parameter-config response responds with CFG_DECODE of its payload. -/
theorem getParaCfgResponseEndsTheTransaction : Obligations.GetParaCfgResponseEndsTheTransaction := by
  intro s addr data hw hawaits
  obtain ⟨-, -, -, -, -, hlayout, -⟩ := s.par.wf_iff.mp hw
  have hexec : exec (.rspGetParaCfg addr data) s = .next (s.ended (configReply s.par data)) :=
    respond_of_awaits hawaits _
  refine ⟨fun hlen => ?_, fun hlen => ?_⟩
  · have hc : cfgDecode s.par data = some _ := if_neg (not_not_intro hlen)
    exact ⟨_, by rw [hexec, configReply, hc], cfgEncode_of_cfgDecode hlayout hc⟩
  · rw [hexec, configReply, show cfgDecode s.par data = none from if_pos hlen]

/-! ## The typed operations and TRANSACT (R297, R307 to R316) -/

/-- R242: a slot and a text within their bounds give the USB string record. -/
theorem strEncode_of_fits {par : Params} {slot : Nat} {text : Bytes} (hs : slot ≤ 2) (ht : text.length ≤ par.strMax) :
    strEncode par slot text = .inr (BitVec.ofNat 8 slot :: BitVec.ofNat 8 text.length :: text) := by
  simp [strEncode, Nat.not_lt.mpr hs, Nat.not_lt.mpr ht]

/-- R314: `set_usb_descriptor` begins its transaction with the record that STR_ENCODE gives. -/
theorem opSetUsbDescriptor_of_inr {s : State} {slot : Nat} {text b : Bytes} (h : strEncode s.par slot text = .inr b) :
    opSetUsbDescriptor slot text s = .next (s.toSend s.par.cmdSetUsbString b .status) := by
  rw [opSetUsbDescriptor, h]
  rfl

/-- R313: `get_usb_descriptor` of a slot there is begins its transaction. -/
theorem opGetUsbDescriptor_of_le {s : State} {slot : Nat} (h : slot ≤ 2) :
    opGetUsbDescriptor slot s =
      .next (s.toSend s.par.cmdGetUsbString [BitVec.ofNat 8 slot] (.usbString (BitVec.ofNat 8 slot))) :=
  if_neg (Nat.not_lt.mpr h)

theorem opSetConfig_of_wellFormed {s : State} {c : DeviceConfig} (h : cfgWellFormed s.par c = true) :
    opSetConfig c s = .next (s.toSend s.par.cmdSetParaCfg (cfgEncode s.par c) .status) := if_pos h

/-- R208, U12: `set_config` of a record that is not well-formed is refused. -/
theorem opSetConfig_of_illFormed {s : State} {c : DeviceConfig} (h : cfgWellFormed s.par c = false) :
    opSetConfig c s = .refused .illFormedConfig := if_neg (by simp [h])

/-- Settles O41: an operation that HOST invokes runs on the state with the call taken, and hands its packed operands to
SEQR, where packing succeeds. -/
theorem typedOperationsHandOverTheirRequest : Obligations.TypedOperationsHandOverTheirRequest := by
  intro s₀ s
  have hrun {op : HostOp} {a : Answer} (h : s₀.Invokes op s) (ha : runHeld op s = a) : step s₀ = a :=
    (step_of_invokes h).1.trans ha
  exact ⟨fun h => hrun h rfl,
    fun _ _ h hp => hrun h (packed_of_some hp _ _),
    fun _ _ h hp => hrun h (packed_of_some hp _ _),
    fun _ _ h hp => hrun h (packed_of_some hp _ _),
    fun h => hrun h rfl,
    fun _ h hc => hrun h (opSetConfig_of_wellFormed hc),
    fun _ h hc => hrun h (opSetConfig_of_illFormed hc),
    fun _ h hs => hrun h (opGetUsbDescriptor_of_le hs),
    fun _ _ h hs ht => hrun h (opSetUsbDescriptor_of_inr (strEncode_of_fits hs ht)),
    fun h => hrun h rfl,
    fun h => hrun h rfl,
    fun _ _ _ h => hrun h rfl⟩

end Sys2Proof.Machine

/-! # Proofs for spec/43_config_codec.md: CFG_DECODE, CFG_ENCODE and CFG_SET (R206 to R212, R221 to R223) -/

namespace Sys2Proof.Machine

/-! ## Stripping after padding (R214, R215) -/

theorem zstrip_cons (b : Byte) (bs : Bytes) :
    zstrip (b :: bs) = if zstrip bs = [] ∧ b = 0x00#8 then [] else b :: zstrip bs := by
  rw [zstrip]
  cases zstrip bs <;> simp

theorem zstrip_rep_zero (n : Nat) : zstrip (rep 0x00#8 n) = [] := by
  induction n with
  | zero => rfl
  | succ n ih => rw [show rep 0x00#8 (n + 1) = 0x00#8 :: rep 0x00#8 n from rfl, zstrip_cons, if_pos ⟨ih, rfl⟩]

/-- R215: zeros at the end make no difference to ZSTRIP. -/
theorem zstrip_append_zeros (s : Bytes) (n : Nat) : zstrip (s ++ rep 0x00#8 n) = zstrip s := by
  induction s with
  | nil => exact zstrip_rep_zero n
  | cons b bs ih => rw [List.cons_append, zstrip_cons, ih, zstrip_cons]

/-- R214, R215: what ZPAD adds is stripped again; what it cuts off is lost. -/
theorem zstrip_zpad (s : Bytes) (w : Nat) : zstrip (zpad s w) = zstrip (s.take w) := by
  unfold zpad
  split
  · rfl
  · next hlen => rw [zstrip_append_zeros, List.take_of_length_le (by omega)]

theorem length_zpad (s : Bytes) (w : Nat) : (zpad s w).length = w := by
  unfold zpad
  split
  · next hle => exact List.length_take_of_le hle
  · simp [rep]; omega

theorem length_zstrip_le (s : Bytes) : (zstrip s).length ≤ s.length := by
  obtain ⟨n, hn⟩ := exists_zstrip_append_zeros s
  conv_rhs => rw [hn]
  simp

/-- R215: stripped bytes do not end in a zero. -/
theorem getLast?_zstrip_ne (s : Bytes) : (zstrip s).getLast? ≠ some 0x00#8 := by
  induction s with
  | nil => simp [zstrip]
  | cons b bs ih =>
    rw [zstrip_cons]
    split
    · simp
    · next hne => cases hz : zstrip bs <;> simp_all

/-- R215: bytes that do not end in a zero have nothing to strip. -/
theorem zstrip_of_getLast?_ne {s : Bytes} (h : s.getLast? ≠ some 0x00#8) : zstrip s = s := by
  obtain ⟨n, hn⟩ := exists_zstrip_append_zeros s
  cases n with
  | zero => simpa [rep] using hn.symm
  | succ n =>
    refine absurd ?_ h
    rw [hn, rep, List.replicate_succ', ← List.append_assoc, List.getLast?_concat]

/-! ## Numbers and mask bits (R15, R209, R212) -/

theorem length_toLe (n v : Nat) : (toLe n v).length = n := by
  induction n generalizing v with
  | zero => rfl
  | succ n ih => rw [toLe, List.length_cons, ih]

theorem length_numBytes (k : CfgKind) (w v : Nat) : (numBytes k w v).length = w := by
  unfold numBytes
  split
  · rw [toBe, List.length_reverse, length_toLe]
  · exact length_toLe w v

/-- R212: setting a bit of a mask byte sets this bit and leaves the other seven. -/
theorem getLsbD_setMaskBit {k : Nat} (hk : k < 8) (b : Byte) (t : Bool) (j : Nat) :
    (setMaskBit b k t).getLsbD j = if j = k then t else b.getLsbD j := by
  have hbit : (1#8 <<< k).getLsbD j = decide (j = k) := by
    rw [← BitVec.twoPow_eq, BitVec.getLsbD_twoPow]
    simp [hk, eq_comm]
  unfold setMaskBit
  cases t with
  | true =>
    rw [if_pos rfl, BitVec.getLsbD_or, hbit]
    split
    · next hj => simp [hj]
    · next hj => simp [hj]
  | false =>
    rw [if_neg Bool.false_ne_true, BitVec.getLsbD_and, BitVec.getLsbD_not, hbit]
    split
    · next hj => simp [hj]
    · next hj => simpa [hj] using BitVec.lt_of_getLsbD

/-! ## The rows of a legal `CFG_LAYOUT` (R12, R201) -/

theorem eq_of_length_filter_eq_one {rows : List CfgRow} {p : CfgRow → Bool} (h : (rows.filter p).length = 1)
    {r q : CfgRow} (hr : r ∈ rows) (hpr : p r = true) (hq : q ∈ rows) (hpq : p q = true) : r = q := by
  obtain ⟨x, hx⟩ := List.length_eq_one_iff.mp h
  have hmem {y : CfgRow} (hy : y ∈ rows) (hpy : p y = true) : y = x :=
    List.mem_singleton.mp (hx ▸ List.mem_filter.mpr ⟨hy, hpy⟩)
  rw [hmem hr hpr, hmem hq hpq]

/-- R12: every component has exactly one row. -/
theorem field_once_of_cfgLayoutOk {par : Params} (h : par.cfgLayoutOk = true) (f : CfgField) :
    (par.cfgLayout.filter fun r => r.field == f).length = 1 := by
  simp only [Params.cfgLayoutOk, Bool.and_eq_true, List.all_eq_true, beq_iff_eq] at h
  obtain ⟨⟨hone, -⟩, -⟩ := h
  exact hone f (by cases f <;> decide)

/-- R201: a row has the kind of its component and the width of its kind. -/
theorem row_fits_of_cfgLayoutOk {par : Params} (h : par.cfgLayoutOk = true) {r : CfgRow} (hr : r ∈ par.cfgLayout) :
    r.field.kindFits r.kind = true ∧ r.widthFits = true := by
  simp only [Params.cfgLayoutOk, Bool.and_eq_true, List.all_eq_true] at h
  obtain ⟨⟨-, hrows⟩, -⟩ := h
  exact (hrows r hr).1

/-- R12, R201: `cfgRow` finds the row of every component. -/
theorem cfgRow_mem_and_field {par : Params} (h : par.cfgLayoutOk = true) (f : CfgField) :
    cfgRow par f ∈ par.cfgLayout ∧ (cfgRow par f).field = f := by
  obtain ⟨x, hx⟩ := List.length_eq_one_iff.mp (field_once_of_cfgLayoutOk h f)
  have hmem : x ∈ par.cfgLayout ∧ (x.field == f) = true := List.mem_filter.mp (hx ▸ List.mem_singleton_self x)
  cases hfind : par.cfgLayout.find? fun r => r.field == f with
  | none => exact absurd hmem.2 (List.find?_eq_none.mp hfind x hmem.1)
  | some r =>
    rw [cfgRow, hfind]
    exact ⟨List.mem_of_find?_eq_some hfind, by simpa using List.find?_some hfind⟩

theorem cfgRow_eq_of_mem {par : Params} (h : par.cfgLayoutOk = true) {r : CfgRow} (hr : r ∈ par.cfgLayout) :
    cfgRow par r.field = r := by
  obtain ⟨hmem, hfield⟩ := cfgRow_mem_and_field h r.field
  exact eq_of_length_filter_eq_one (field_once_of_cfgLayoutOk h r.field) hmem (by simpa using hfield) hr (by simp)

/-- R201, R213: the string kind is the kind of the two string components. -/
theorem row_kind_eq_zstr_iff {par : Params} (h : par.cfgLayoutOk = true) {r : CfgRow} (hr : r ∈ par.cfgLayout) :
    r.kind = .zstr ↔ ∃ f, r.field = strFieldOf f := by
  obtain ⟨hkind, -⟩ := row_fits_of_cfgLayoutOk h hr
  constructor
  · intro hz
    rw [hz] at hkind
    cases hf : r.field with
    | enterChars => exact ⟨.enterChars, rfl⟩
    | filter => exact ⟨.filter, rfl⟩
    | workMode | serialMode | chipAddr | addrRsvd | baud | packetInterval | vid | pid | kbSubmitInterval
    | kbReleaseDelay | autoEnter | descEnable | fastSubmit | tailRsvd => simp [hf, CfgField.kindFits] at hkind
  · rintro ⟨f, hf⟩
    rw [hf] at hkind
    cases f <;> cases hk : r.kind <;> simp_all [strFieldOf, CfgField.kindFits]

theorem row_width_of_zstr {par : Params} (h : par.cfgLayoutOk = true) {r : CfgRow} (hr : r ∈ par.cfgLayout)
    (hz : r.kind = .zstr) : r.width = zstrWidth := by
  obtain ⟨-, hwidth⟩ := row_fits_of_cfgLayoutOk h hr
  simpa [CfgRow.widthFits, hz] using hwidth

theorem numFieldOf_ne_strFieldOf (f : NumField) (g : StrField) : numFieldOf f ≠ strFieldOf g := by
  cases f <;> cases g <;> decide

/-! ## What a decoded record holds (R206, R208, R222) -/

theorem cfgDecode_of_length_eq {par : Params} {p : Bytes} (h : p.length = par.cfgSize) :
    cfgDecode par p = some (par.cfgLayout.foldl (cfgDecodeRow p) cfgBlank) := if_neg (not_not_intro h)

theorem cfgDecode_of_length_ne {par : Params} {p : Bytes} (h : p.length ≠ par.cfgSize) : cfgDecode par p = none :=
  if_pos h

theorem length_of_cfgDecode {par : Params} {p : Bytes} {c : DeviceConfig} (h : cfgDecode par p = some c) :
    p.length = par.cfgSize := by
  by_contra hne
  rw [cfgDecode_of_length_ne hne] at h
  cases h

theorem memRead_eq_take_drop (b : Bytes) (i n : Nat) : memRead b i n = (b.drop i).take n := by
  rw [memRead, slice, List.drop_take, Nat.add_sub_cancel_left]

/-- R208: well-formed says that every component that is no string has the width of its row. -/
theorem cfgWellFormed_iff {par : Params} {c : DeviceConfig} :
    cfgWellFormed par c = true ↔
      ∀ r ∈ par.cfgLayout, r.kind ≠ .zstr → (cfgRaw c r.field).length = r.width := by
  simp [cfgWellFormed, List.all_eq_true, or_iff_not_imp_left]

/-- R208: representable says in addition that a string fits its row and does not end in a zero. -/
theorem cfgRepresentable_iff {par : Params} {c : DeviceConfig} :
    cfgRepresentable par c = true ↔
      cfgWellFormed par c = true ∧ ∀ r ∈ par.cfgLayout, r.kind = .zstr →
        (cfgRaw c r.field).length ≤ r.width ∧ (cfgRaw c r.field).getLast? ≠ some 0x00#8 := by
  simp [cfgRepresentable, List.all_eq_true, or_iff_not_imp_left]

/-- R206, R208: every component of a decoded record fits its row. -/
theorem cfgRepresentable_of_cfgDecode {par : Params} (h : par.cfgLayoutOk = true) {p : Bytes} {c : DeviceConfig}
    (hc : cfgDecode par p = some c) : cfgRepresentable par c = true := by
  have hread {r : CfgRow} (hr : r ∈ par.cfgLayout) : (memRead p r.offset r.width).length = r.width :=
    length_memRead (length_of_cfgDecode hc ▸ Params.row_inside_of_cfgLayoutOk h hr)
  refine cfgRepresentable_iff.mpr ⟨cfgWellFormed_iff.mpr fun r hr hz => ?_, fun r hr hz => ?_⟩
  · rw [cfgRaw_of_cfgDecode h hc hr, storedRaw, if_neg hz, hread hr]
  · rw [cfgRaw_of_cfgDecode h hc hr, storedRaw, if_pos hz]
    exact ⟨(length_zstrip_le _).trans (hread hr).le, getLast?_zstrip_ne _⟩

/-- R206: where a component holds the bytes decoded from its row, it stands to the row's range as the rule says. -/
theorem rowDecoded_of_cfgRaw_eq {par : Params} (h : par.cfgLayoutOk = true) {p : Bytes} {c : DeviceConfig}
    {r : CfgRow} (hr : r ∈ par.cfgLayout) (hraw : cfgRaw c r.field = storedRaw p r) : RowDecoded c p r := by
  have hkind := row_kind_eq_zstr_iff h hr
  rw [storedRaw, memRead_eq_take_drop] at hraw
  unfold RowDecoded
  cases hf : r.field with
  | enterChars =>
    rw [if_pos (hkind.mpr ⟨.enterChars, hf⟩), hf] at hraw
    exact hraw
  | filter =>
    rw [if_pos (hkind.mpr ⟨.filter, hf⟩), hf] at hraw
    exact hraw
  | workMode | serialMode | chipAddr | autoEnter | descEnable | fastSubmit =>
    rw [if_neg (mt hkind.mp (by rintro ⟨g, hg⟩; cases g <;> simp [hf, strFieldOf] at hg)), hf] at hraw
    exact hraw.symm
  | addrRsvd | baud | packetInterval | vid | pid | kbSubmitInterval | kbReleaseDelay | tailRsvd =>
    rw [if_neg (mt hkind.mp (by rintro ⟨g, hg⟩; cases g <;> simp [hf, strFieldOf] at hg)), hf] at hraw
    exact hraw

/-- Settles O54: CFG_DECODE stores each row's range in its component, and CFG_ENCODE writes it back. -/
theorem configEncodeOfDecode : Obligations.ConfigEncodeOfDecode := by
  intro par p hw
  obtain ⟨-, -, -, -, -, hlayout, -⟩ := par.wf_iff.mp hw
  refine ⟨fun hlen => ?_, fun c hc r hr => ?_, cfgDecode_of_length_ne⟩
  · have hc := cfgDecode_of_length_eq hlen
    exact ⟨_, hc, cfgEncode_of_cfgDecode hlayout hc, cfgRepresentable_of_cfgDecode hlayout hc⟩
  · exact rowDecoded_of_cfgRaw_eq hlayout hr (cfgRaw_of_cfgDecode hlayout hc hr)

/-! ## What CFG_ENCODE writes (R207, R223) -/

/-- R16: a range that is written holds the bytes written, and the rest is unchanged. -/
theorem getElem?_memWrite {b v : Bytes} {i : Nat} (h : i + v.length ≤ b.length) (o : Nat) :
    (memWrite b i v)[o]? = if i ≤ o ∧ o < i + v.length then v[o - i]? else b[o]? := by
  have hlen : (b.take i).length = i := List.length_take_of_le (by omega)
  rw [memWrite, if_pos h, List.append_assoc]
  split
  · rw [List.getElem?_append_right (by omega), List.getElem?_append_left (by omega), hlen]
  · by_cases hlt : o < i
    · rw [List.getElem?_append_left (by omega), List.getElem?_take_of_lt hlt]
    · rw [List.getElem?_append_right (by omega), List.getElem?_append_right (by omega), hlen, List.getElem?_drop,
        show i + v.length + (o - i - v.length) = o by omega]

theorem covers_iff (r : CfgRow) (o : Nat) : r.covers o = true ↔ r.offset ≤ o ∧ o < r.offset + r.width := by
  simp [CfgRow.covers]

/-- R207: the bytes that one turn of CFG_ENCODE's loop writes into its row. -/
def rowBytes (c : DeviceConfig) (r : CfgRow) : Bytes :=
  if r.kind = .zstr then zpad (cfgRaw c r.field) r.width else cfgRaw c r.field

theorem cfgEncodeRow_eq (c : DeviceConfig) (b : Bytes) (r : CfgRow) :
    cfgEncodeRow c b r = memWrite b r.offset (rowBytes c r) := rfl

/-- R207, R208: a well-formed record fills each row exactly. -/
theorem length_rowBytes {par : Params} {c : DeviceConfig} (hwf : cfgWellFormed par c = true) {r : CfgRow}
    (hr : r ∈ par.cfgLayout) : (rowBytes c r).length = r.width := by
  unfold rowBytes
  split
  · exact length_zpad _ _
  · next hz => exact cfgWellFormed_iff.mp hwf r hr hz

theorem length_foldl_cfgEncodeRow (c : DeviceConfig) (rows : List CfgRow) (b : Bytes) :
    (rows.foldl (cfgEncodeRow c) b).length = b.length := by
  induction rows generalizing b with
  | nil => rfl
  | cons r rows ih => rw [List.foldl_cons, ih, cfgEncodeRow_eq, length_memWrite]

theorem length_cfgEncode (par : Params) (c : DeviceConfig) : (cfgEncode par c).length = par.cfgSize := by
  rw [cfgEncode, length_foldl_cfgEncodeRow, rep, List.length_replicate]

/-- R207: CFG_ENCODE's loop leaves at an offset what all the rows that cover it agree on, or what stood there before the
loop when no row covers it. -/
theorem getElem?_foldl_cfgEncodeRow_of_agree {c : DeviceConfig} {rows : List CfgRow} {o : Nat} {x : Option Byte}
    (hlen : ∀ r ∈ rows, (rowBytes c r).length = r.width)
    (hx : ∀ r ∈ rows, r.covers o = true → (rowBytes c r)[o - r.offset]? = x) {b : Bytes}
    (hinside : ∀ r ∈ rows, r.offset + r.width ≤ b.length)
    (ho : b[o]? = x ∨ ∃ r ∈ rows, r.covers o = true) : (rows.foldl (cfgEncodeRow c) b)[o]? = x := by
  induction rows generalizing b with
  | nil => simpa using ho
  | cons r rows ih =>
    obtain ⟨hlenr, hlen⟩ := List.forall_mem_cons.mp hlen
    obtain ⟨hxr, hx⟩ := List.forall_mem_cons.mp hx
    obtain ⟨hinr, hinside⟩ := List.forall_mem_cons.mp hinside
    rw [List.foldl_cons, cfgEncodeRow_eq]
    refine ih hlen hx (by rwa [length_memWrite]) ?_
    rw [getElem?_memWrite (hlenr.symm ▸ hinr), hlenr]
    simp only [← covers_iff]
    split
    · next hcov => exact .inl (hxr hcov)
    · next hcov => simpa [hcov] using ho

/-- R207: the encoding of a well-formed record holds the component's bytes inside its row. -/
theorem getElem?_cfgEncode {par : Params} (h : par.cfgLayoutOk = true) {c : DeviceConfig}
    (hwf : cfgWellFormed par c = true) {r : CfgRow} (hr : r ∈ par.cfgLayout) {o : Nat} (ho : r.covers o = true) :
    (cfgEncode par c)[o]? = (rowBytes c r)[o - r.offset]? := by
  have hsize : o < par.cfgSize := by
    have hin := Params.row_inside_of_cfgLayoutOk h hr
    have hcov := (covers_iff r o).mp ho
    omega
  refine getElem?_foldl_cfgEncodeRow_of_agree (fun q hq => length_rowBytes hwf hq) (fun q hq hcov => ?_)
    (fun q hq => ?_) (.inr ⟨r, hr, ho⟩)
  · rw [eq_of_length_filter_eq_one (Params.covered_once_of_cfgLayoutOk h hsize) hq hcov hr ho]
  · rw [rep, List.length_replicate]
    exact Params.row_inside_of_cfgLayoutOk h hq

/-- R207: the row's range of the encoding is the component's bytes. -/
theorem memRead_cfgEncode {par : Params} (h : par.cfgLayoutOk = true) {c : DeviceConfig}
    (hwf : cfgWellFormed par c = true) {r : CfgRow} (hr : r ∈ par.cfgLayout) :
    memRead (cfgEncode par c) r.offset r.width = rowBytes c r := by
  have hlen := length_rowBytes hwf hr
  refine List.ext_getElem? fun k => ?_
  rw [memRead_eq_take_drop, List.getElem?_take]
  split
  · next hk =>
    rw [List.getElem?_drop, getElem?_cfgEncode h hwf hr ((covers_iff r _).mpr (by omega)), Nat.add_sub_cancel_left]
  · exact (List.getElem?_eq_none (by omega)).symm

/-- R223: the encodings of two well-formed records that agree but for one component agree outside its row. -/
theorem getElem?_cfgEncode_congr {par : Params} (h : par.cfgLayoutOk = true) {c c' : DeviceConfig}
    (hwf : cfgWellFormed par c = true) (hwf' : cfgWellFormed par c' = true) {f : CfgField}
    (heq : ∀ g, g ≠ f → cfgRaw c' g = cfgRaw c g) {o : Nat} (ho : (cfgRow par f).covers o = false) :
    (cfgEncode par c')[o]? = (cfgEncode par c)[o]? := by
  by_cases hsize : o < par.cfgSize
  · obtain ⟨r, hr, hcov⟩ := cfgLayout_exists_covers h hsize
    have hne : r.field ≠ f := by
      rintro rfl
      rw [cfgRow_eq_of_mem h hr, hcov] at ho
      cases ho
    rw [getElem?_cfgEncode h hwf' hr hcov, getElem?_cfgEncode h hwf hr hcov, rowBytes, heq _ hne, rowBytes]
  · have hnone (d : DeviceConfig) : (cfgEncode par d)[o]? = none :=
      List.getElem?_eq_none (by rw [length_cfgEncode]; omega)
    rw [hnone, hnone]

/-! ## CFG_DECODE of CFG_ENCODE (R221) -/

/-- R221: the record with its strings truncated to the width of a string and stripped. -/
def cfgTrim (c : DeviceConfig) : DeviceConfig :=
  { c with enterChars := zstrip (c.enterChars.take zstrWidth), filter := zstrip (c.filter.take zstrWidth) }

theorem cfgRaw_cfgTrim_str (c : DeviceConfig) (f : StrField) :
    cfgRaw (cfgTrim c) (strFieldOf f) = zstrip ((cfgRaw c (strFieldOf f)).take zstrWidth) := by
  cases f <;> rfl

theorem cfgRaw_cfgTrim_of_ne (c : DeviceConfig) {g : CfgField} (h : ∀ f, g ≠ strFieldOf f) :
    cfgRaw (cfgTrim c) g = cfgRaw c g := by
  cases g with
  | enterChars => exact absurd rfl (h .enterChars)
  | filter => exact absurd rfl (h .filter)
  | workMode | serialMode | chipAddr | addrRsvd | baud | packetInterval | vid | pid | kbSubmitInterval
  | kbReleaseDelay | autoEnter | descEnable | fastSubmit | tailRsvd => rfl

/-- R202: a record is its components. -/
theorem eq_of_cfgRaw_eq {c d : DeviceConfig} (h : ∀ f, cfgRaw c f = cfgRaw d f) : c = d := by
  obtain ⟨⟩ := c
  obtain ⟨⟩ := d
  rw [DeviceConfig.mk.injEq]
  exact ⟨List.singleton_inj.mp (h .workMode), List.singleton_inj.mp (h .serialMode),
    List.singleton_inj.mp (h .chipAddr), h .addrRsvd, h .baud, h .packetInterval, h .vid, h .pid,
    h .kbSubmitInterval, h .kbReleaseDelay, List.singleton_inj.mp (h .autoEnter), h .enterChars, h .filter,
    List.singleton_inj.mp (h .descEnable), List.singleton_inj.mp (h .fastSubmit), h .tailRsvd⟩

/-- R206, R207: what is decoded from the row of an encoded record is the component, trimmed for a string. -/
theorem storedRaw_cfgEncode {par : Params} (h : par.cfgLayoutOk = true) {c : DeviceConfig}
    (hwf : cfgWellFormed par c = true) {r : CfgRow} (hr : r ∈ par.cfgLayout) :
    storedRaw (cfgEncode par c) r = cfgRaw (cfgTrim c) r.field := by
  rw [storedRaw, memRead_cfgEncode h hwf hr, rowBytes]
  by_cases hz : r.kind = .zstr
  · obtain ⟨f, hf⟩ := (row_kind_eq_zstr_iff h hr).mp hz
    rw [if_pos hz, if_pos hz, zstrip_zpad, row_width_of_zstr h hr hz, hf, cfgRaw_cfgTrim_str]
  · rw [if_neg hz, if_neg hz,
      cfgRaw_cfgTrim_of_ne c fun f hf => hz ((row_kind_eq_zstr_iff h hr).mpr ⟨f, hf⟩)]

/-- R221: decoding the encoding of a well-formed record trims its strings. -/
theorem cfgDecode_cfgEncode {par : Params} (h : par.cfgLayoutOk = true) {c : DeviceConfig}
    (hwf : cfgWellFormed par c = true) : cfgDecode par (cfgEncode par c) = some (cfgTrim c) := by
  have hc := cfgDecode_of_length_eq (length_cfgEncode par c)
  rw [hc]
  refine congrArg some (eq_of_cfgRaw_eq fun f => ?_)
  obtain ⟨hmem, hfield⟩ := cfgRow_mem_and_field h f
  have hraw := (cfgRaw_of_cfgDecode h hc hmem).trans (storedRaw_cfgEncode h hwf hmem)
  rwa [hfield] at hraw

/-- R208, R221: a representable record has nothing to trim. -/
theorem cfgTrim_of_cfgRepresentable {par : Params} (h : par.cfgLayoutOk = true) {c : DeviceConfig}
    (hrep : cfgRepresentable par c = true) : cfgTrim c = c := by
  obtain ⟨-, hstr⟩ := cfgRepresentable_iff.mp hrep
  have htrim (f : StrField) : zstrip ((cfgRaw c (strFieldOf f)).take zstrWidth) = cfgRaw c (strFieldOf f) := by
    obtain ⟨hmem, hfield⟩ := cfgRow_mem_and_field h (strFieldOf f)
    have hz := (row_kind_eq_zstr_iff h hmem).mpr ⟨f, hfield⟩
    obtain ⟨hlen, hlast⟩ := hstr _ hmem hz
    rw [hfield] at hlen hlast
    rw [List.take_of_length_le (row_width_of_zstr h hmem hz ▸ hlen), zstrip_of_getLast?_ne hlast]
  refine eq_of_cfgRaw_eq fun g => ?_
  by_cases hg : ∃ f, g = strFieldOf f
  · obtain ⟨f, rfl⟩ := hg
    rw [cfgRaw_cfgTrim_str, htrim]
  · exact cfgRaw_cfgTrim_of_ne c (not_exists.mp hg)

/-- Settles O53: decoding the encoding trims the strings, and a representable record has nothing to trim. -/
theorem configDecodeOfEncode : Obligations.ConfigDecodeOfEncode := by
  intro par c hw
  obtain ⟨-, -, -, -, -, hlayout, -⟩ := par.wf_iff.mp hw
  refine ⟨fun hrep => ?_, cfgDecode_cfgEncode hlayout⟩
  obtain ⟨hwf, -⟩ := cfgRepresentable_iff.mp hrep
  rw [cfgDecode_cfgEncode hlayout hwf, cfgTrim_of_cfgRepresentable hlayout hrep]

/-! ## CFG_SET (R209 to R212, R223) -/

/-- R209 to R212: the bytes that CFG_SET stores in the component it addresses. -/
def assignRaw (par : Params) (c : DeviceConfig) : CfgAssign → Bytes
  | .num f v => numBytes (cfgRow par (numFieldOf f)).kind (cfgRow par (numFieldOf f)).width v.toNat
  | .flag _ t => [flagByte t]
  | .desc f t => [setMaskBit c.descEnable (descBit par f) t]
  | .str _ s => s

/-- R209 to R212: CFG_SET, where it does not refuse, replaces the component it addresses. -/
theorem eq_cfgPut_of_cfgSet {par : Params} {c c' : DeviceConfig} {a : CfgAssign} (h : cfgSet par c a = some c') :
    c' = cfgPut c (assignField a) (assignRaw par c a) := by
  cases a with
  | num f v =>
    simp only [cfgSet] at h
    split at h
    · exact (Option.some.inj h).symm
    · cases h
  | flag f t | desc f t | str f s => exact (Option.some.inj h).symm

/-- R209 to R212: CFG_SET stores bytes of the width of the row, unless it stores a string. -/
theorem length_assignRaw {par : Params} (h : par.cfgLayoutOk = true) (c : DeviceConfig) {a : CfgAssign}
    (hstr : ∀ f s, a ≠ .str f s) : (assignRaw par c a).length = (cfgRow par (assignField a)).width := by
  obtain ⟨hmem, hfield⟩ := cfgRow_mem_and_field h (assignField a)
  cases a with
  | num f v => exact length_numBytes _ _ _
  | flag f t =>
    obtain ⟨hwidth, -⟩ := row_of_isByteField h hmem (by rw [hfield]; cases f <;> trivial)
    exact hwidth.symm
  | desc f t =>
    obtain ⟨hwidth, -⟩ := row_of_isByteField h hmem (by rw [hfield]; trivial)
    exact hwidth.symm
  | str f s => exact absurd rfl (hstr f s)

theorem cfgRaw_cfgSet_of_ne {par : Params} {c c' : DeviceConfig} {a : CfgAssign} (h : cfgSet par c a = some c')
    {g : CfgField} (hg : g ≠ assignField a) : cfgRaw c' g = cfgRaw c g := by
  rw [eq_cfgPut_of_cfgSet h, cfgRaw_cfgPut_of_ne c hg]

theorem cfgRaw_cfgSet_same {par : Params} (hl : par.cfgLayoutOk = true) {c c' : DeviceConfig} {a : CfgAssign}
    (h : cfgSet par c a = some c') : cfgRaw c' (assignField a) = assignRaw par c a := by
  rw [eq_cfgPut_of_cfgSet h]
  refine cfgRaw_cfgPut_same c fun hbyte => ?_
  obtain ⟨hmem, hfield⟩ := cfgRow_mem_and_field hl (assignField a)
  obtain ⟨hwidth, -⟩ := row_of_isByteField hl hmem (by rwa [hfield])
  rw [length_assignRaw hl c, hwidth]
  rintro f s rfl
  cases f <;> exact hbyte

/-- R208: CFG_SET keeps a record well-formed. -/
theorem cfgWellFormed_of_cfgSet {par : Params} (hl : par.cfgLayoutOk = true) {c c' : DeviceConfig} {a : CfgAssign}
    (hwf : cfgWellFormed par c = true) (h : cfgSet par c a = some c') : cfgWellFormed par c' = true := by
  refine cfgWellFormed_iff.mpr fun r hr hz => ?_
  by_cases hf : r.field = assignField a
  · rw [hf, cfgRaw_cfgSet_same hl h, length_assignRaw hl c, ← hf, cfgRow_eq_of_mem hl hr]
    rintro f s rfl
    exact hz ((row_kind_eq_zstr_iff hl hr).mpr ⟨f, hf⟩)
  · rw [cfgRaw_cfgSet_of_ne h hf]
    exact cfgWellFormed_iff.mp hwf r hr hz

/-- R223: encoding after CFG_SET writes the encoding of the value into the row it addresses. -/
theorem rowBytes_cfgSet {par : Params} (hl : par.cfgLayoutOk = true) {c c' : DeviceConfig} {a : CfgAssign}
    (h : cfgSet par c a = some c') :
    rowBytes c' (cfgRow par (assignField a)) = assignBytes par c.descEnable a := by
  obtain ⟨hmem, hfield⟩ := cfgRow_mem_and_field hl (assignField a)
  have hkind : (cfgRow par (assignField a)).kind = .zstr ↔ ∃ g, assignField a = strFieldOf g := by
    simpa only [hfield] using row_kind_eq_zstr_iff hl hmem
  rw [rowBytes, hfield, cfgRaw_cfgSet_same hl h]
  cases a with
  | num f v => exact if_neg (mt hkind.mp (not_exists.mpr (numFieldOf_ne_strFieldOf f)))
  | flag f t => exact if_neg (mt hkind.mp (by rintro ⟨g, hg⟩; cases f <;> cases g <;> cases hg))
  | desc f t => exact if_neg (mt hkind.mp (by rintro ⟨g, hg⟩; cases g <;> cases hg))
  | str f s =>
    have hz := hkind.mpr ⟨f, rfl⟩
    rw [if_pos hz, row_width_of_zstr hl hmem hz]
    rfl

/-- The first byte of a range of one byte. -/
theorem getD_of_memRead_eq_singleton {b : Bytes} {i n : Nat} {x : Byte} (h : memRead b i n = [x]) :
    b.getD i 0x00#8 = x := by
  have hget : (memRead b i n)[0]? = some x := by rw [h]; rfl
  rw [memRead_eq_take_drop, List.getElem?_take, List.getElem?_drop] at hget
  split at hget
  · rw [List.getD_eq_getElem?_getD, ← Nat.add_zero i, hget]
    rfl
  · cases hget

/-- R206: the first byte of the mask's row is the mask of the decoded record. -/
theorem getD_descEnable_of_cfgDecode {par : Params} (hl : par.cfgLayoutOk = true) {p : Bytes} {c : DeviceConfig}
    (hc : cfgDecode par p = some c) : p.getD (cfgRow par .descEnable).offset 0x00#8 = c.descEnable := by
  obtain ⟨hmem, hfield⟩ := cfgRow_mem_and_field hl .descEnable
  obtain ⟨-, hz⟩ := row_of_isByteField hl hmem (by rw [hfield]; trivial)
  have hraw := cfgRaw_of_cfgDecode hl hc hmem
  rw [hfield, storedRaw, if_neg hz] at hraw
  exact getD_of_memRead_eq_singleton hraw.symm

/-- R223: the encoding of the value depends on the old byte for a mask only. -/
theorem assignBytes_getD_of_cfgDecode {par : Params} (hl : par.cfgLayoutOk = true) {p : Bytes} {c : DeviceConfig}
    (hc : cfgDecode par p = some c) (a : CfgAssign) :
    assignBytes par (p.getD (cfgRow par (assignField a)).offset 0x00#8) a = assignBytes par c.descEnable a := by
  cases a with
  | num | flag | str => rfl
  | desc f t => rw [← getD_descEnable_of_cfgDecode hl hc]; rfl

/-- R223: what CFG_SET of a decoded record changes in the payload. -/
theorem cfgEncode_of_cfgSet {par : Params} (hw : par.wf = true) {p : Bytes} {c c' : DeviceConfig} {a : CfgAssign}
    (hc : cfgDecode par p = some c) (h : cfgSet par c a = some c') :
    (∀ o, (cfgRow par (assignField a)).covers o = false → (cfgEncode par c')[o]? = p[o]?) ∧
    memRead (cfgEncode par c') (cfgRow par (assignField a)).offset (cfgRow par (assignField a)).width =
      assignBytes par (p.getD (cfgRow par (assignField a)).offset 0x00#8) a ∧
    (∀ f t, a = .desc f t → ∀ k, k ≠ descBit par f →
      ((cfgEncode par c').getD (cfgRow par .descEnable).offset 0x00#8).getLsbD k =
        (p.getD (cfgRow par .descEnable).offset 0x00#8).getLsbD k) := by
  obtain ⟨-, -, -, -, -, hl, hbits, -⟩ := par.wf_iff.mp hw
  obtain ⟨hmem, -⟩ := cfgRow_mem_and_field hl (assignField a)
  obtain ⟨hwf, -⟩ := cfgRepresentable_iff.mp (cfgRepresentable_of_cfgDecode hl hc)
  have hwf' := cfgWellFormed_of_cfgSet hl hwf h
  have hrange := (memRead_cfgEncode hl hwf' hmem).trans (rowBytes_cfgSet hl h)
  refine ⟨fun o ho => ?_, ?_, ?_⟩
  · rw [getElem?_cfgEncode_congr hl hwf hwf' (fun g hg => cfgRaw_cfgSet_of_ne h hg) ho,
      cfgEncode_of_cfgDecode hl hc]
  · rw [hrange, assignBytes_getD_of_cfgDecode hl hc]
  · rintro f t rfl k hk
    have hbyte : (cfgEncode par c').getD (cfgRow par .descEnable).offset 0x00#8 =
        setMaskBit c.descEnable (descBit par f) t := getD_of_memRead_eq_singleton hrange
    rw [hbyte, getD_descEnable_of_cfgDecode hl hc, getLsbD_setMaskBit (descBit_lt hbits f), if_neg hk]

/-- R212: CFG_SET of a descriptor flag replaces the mask by one that differs in the flag's bit at most. -/
theorem cfgSet_desc {par : Params} (hw : par.wf = true) (c : DeviceConfig) (f : DescFlag) (t : Bool) :
    ∃ m, cfgSet par c (.desc f t) = some { c with descEnable := m } ∧
      ∀ k, m.getLsbD k = if k = descBit par f then t else c.descEnable.getLsbD k := by
  obtain ⟨-, -, -, -, -, -, hbits, -⟩ := par.wf_iff.mp hw
  exact ⟨_, rfl, getLsbD_setMaskBit (descBit_lt hbits f) c.descEnable t⟩

/-- Settles O55: CFG_SET puts the bytes of the value into the component it addresses, and every component has a row of
its own. -/
theorem configSetTouchesOnlyItsRange : Obligations.ConfigSetTouchesOnlyItsRange := by
  refine ⟨fun par p c c' a hw hc hset => ?_, fun par c c' hw => ?_⟩
  · exact ⟨_, rfl, (length_cfgEncode par c').trans (length_of_cfgDecode hc).symm, cfgEncode_of_cfgSet hw hc hset⟩
  · have hnum {f : NumField} {v : Int} (h : cfgSet par c (.num f v) = some c') :
        ∃ raw, c' = cfgPut c (numFieldOf f) raw := ⟨_, eq_cfgPut_of_cfgSet h⟩
    refine ⟨?_, ?_, ?_, ?_, ?_, ?_, ?_, ?_, ?_, fun _ => rfl, fun _ => rfl, cfgSet_desc hw c .vendor,
      cfgSet_desc hw c .product, cfgSet_desc hw c .serial, fun _ => rfl, fun _ => rfl⟩
    all_goals
      intro v h
      obtain ⟨raw, rfl⟩ := hnum h
      rfl

end Sys2Proof.Machine

/-! # Proofs for spec/44_descriptor_codec.md: STR_ENCODE, STR_DECODE, the get-usb-string handler (R242 to R247, R313) -/

namespace Sys2Proof.Machine

/-! ## What STR_DECODE answers, check by check (R245) -/

theorem strDecode_of_length_lt_two {p : Bytes} (h : p.length < 2) : strDecode p = .inl .badLength := by
  match p, h with
  | [], _ => rfl
  | [_], _ => rfl

/-- R245, R337: an unknown slot is reported whatever the length byte says. -/
theorem strDecode_of_unknown_slot {b : Byte} (h : 2 < b.toNat) (n : Byte) (text : Bytes) :
    strDecode (b :: n :: text) = .inl .badSlot := if_pos h

theorem strDecode_of_length_ne {b n : Byte} {text : Bytes} (hb : b.toNat ≤ 2) (hn : text.length ≠ n.toNat) :
    strDecode (b :: n :: text) = .inl .badLength :=
  (if_neg (Nat.not_lt.mpr hb)).trans (if_pos hn)

theorem strDecode_of_record {b n : Byte} {text : Bytes} (hb : b.toNat ≤ 2) (hn : text.length = n.toNat) :
    strDecode (b :: n :: text) = .inr (b.toNat, text) :=
  (if_neg (Nat.not_lt.mpr hb)).trans (if_neg (not_not_intro hn))

/-- R245: a payload that STR_DECODE accepts has passed its three checks. -/
theorem eq_record_of_strDecode {p text : Bytes} {slot : Nat} (h : strDecode p = .inr (slot, text)) :
    ∃ b n : Byte, p = b :: n :: text ∧ b.toNat = slot ∧ slot ≤ 2 ∧ text.length = n.toNat := by
  match p with
  | [] | [_] => cases h
  | b :: n :: t =>
    by_cases hb : b.toNat ≤ 2
    · by_cases hn : t.length = n.toNat
      · rw [strDecode_of_record hb hn] at h
        cases h
        exact ⟨b, n, rfl, rfl, hb, hn⟩
      · rw [strDecode_of_length_ne hb hn] at h
        cases h
    · rw [strDecode_of_unknown_slot (Nat.lt_of_not_le hb)] at h
      cases h

/-! ## The record of a slot and a text (R240, R245 to R247) -/

/-- Settles O59: the two bytes in front of the text are determined by their values. -/
theorem stringDecodeAcceptsExactlyRecords : Obligations.StringDecodeAcceptsExactlyRecords := by
  refine fun p slot text => ⟨fun h => ?_, ?_⟩
  · obtain ⟨b, n, rfl, rfl, hslot, hlen⟩ := eq_record_of_strDecode h
    rw [hlen, BitVec.ofNat_toNat, BitVec.ofNat_toNat, BitVec.setWidth_eq, BitVec.setWidth_eq]
    exact ⟨hslot, Nat.le_of_lt_succ n.isLt, rfl⟩
  · rintro ⟨hslot, hlen, rfl⟩
    have hb : (BitVec.ofNat 8 slot).toNat = slot := Nat.mod_eq_of_lt (by omega)
    rw [strDecode_of_record (hb.le.trans hslot) (toNat_len_of_le hlen).symm, hb]

/-- Settles O58: STR_ENCODE writes the record that STR_DECODE accepts; R12 keeps `STR_MAX` within a length byte. -/
theorem stringRecordRoundTrips : Obligations.StringRecordRoundTrips := by
  intro par hw
  obtain ⟨-, -, -, -, -, -, -, hmax, -⟩ := par.wf_iff.mp hw
  refine ⟨fun slot text hslot htext => ?_, fun p slot text hdecode htext => ?_⟩
  · have hlen : text.length ≤ maxPayload := by omega
    exact ⟨_, strEncode_of_fits hslot htext,
      (stringDecodeAcceptsExactlyRecords _ slot text).mpr ⟨hslot, hlen, rfl⟩⟩
  · obtain ⟨hslot, -, rfl⟩ := (stringDecodeAcceptsExactlyRecords p slot text).mp hdecode
    exact strEncode_of_fits hslot htext

/-! ## The get-usb-string handler (R179, R313) -/

/-- R179: what STR_DECODE refuses is reported with its error, whatever slot was asked for. -/
theorem usbStringReply_of_inl {p : Bytes} {e : DecodeError} (h : strDecode p = .inl e) (asked : Option Byte) :
    usbStringReply asked p = .soft (.deviceRejected (.decode e)) := by
  rw [usbStringReply, h]

/-- R313: the text of a record is returned for the slot that was asked for only. -/
theorem usbStringReply_of_inr {p text : Bytes} {b : Byte} (h : strDecode p = .inr (b.toNat, text)) (slot : Byte) :
    usbStringReply (some slot) p = if b = slot then .ok (.bytes text) else .soft (.deviceRejected .slotMismatch) := by
  simp only [usbStringReply, h, Option.map_some, Option.some.injEq, BitVec.toNat_inj, eq_comm (a := slot)]

/-- R179, R187: the get-usb-string response responds with STR_DECODE of its payload for the slot of the handler. -/
theorem exec_rspGetUsbString_of_awaits {s : State} {addr slot : Byte} (hawaits : s.Awaits .getUsbString addr)
    (hhnd : s.hnd = .usbString slot) (data : Bytes) :
    exec (.rspGetUsbString addr data) s = .next (s.ended (usbStringReply (some slot) data)) := by
  have hexec : exec (.rspGetUsbString addr data) s = .next (s.ended (usbStringReply (askedSlot s.hnd) data)) :=
    respond_of_awaits hawaits _
  rw [hexec, hhnd, askedSlot]

/-- Settles O33: the get-usb-string response responds with its handler's reply, check by check of STR_DECODE. -/
theorem getUsbStringResponseEndsTheTransaction : Obligations.GetUsbStringResponseEndsTheTransaction := by
  intro s addr slot b n data text hawaits hhnd
  have hexec := exec_rspGetUsbString_of_awaits hawaits hhnd
  refine ⟨fun hshort => ?_, fun hslot => ?_, fun hslot hlen => ?_, fun hslot hlen heq => ?_, fun hslot hlen hne => ?_⟩
  · rw [hexec, usbStringReply_of_inl (strDecode_of_length_lt_two hshort)]
  · rw [hexec, usbStringReply_of_inl (strDecode_of_unknown_slot hslot n text)]
  · rw [hexec, usbStringReply_of_inl (strDecode_of_length_ne hslot hlen)]
  · rw [hexec, usbStringReply_of_inr (strDecode_of_record hslot hlen), if_pos heq]
  · rw [hexec, usbStringReply_of_inr (strDecode_of_record hslot hlen), if_neg hne]

end Sys2Proof.Machine

/-! # Proofs for spec/46_transaction.md: TRANSACT and its waiting loop (R28, R295 to R306, R317, R318, R351, R364) -/

namespace Sys2Proof.Machine

/-! ## FC's own move at each position (R297) -/

section
variable {s₀ s : State}

theorem step_of_turn_sendDirect (h : s₀.Turn s) (hpos : s.pos = .sendDirect) : step s₀ = transmitTxr s := by
  rw [step_of_turn h, moveStep, hpos]

theorem step_of_turn_parse (h : s₀.Turn s) (hpos : s.pos = .parse) : step s₀ = parsePosStep s := by
  rw [step_of_turn h, moveStep, hpos]

theorem step_of_turn_deadline (h : s₀.Turn s) (hpos : s.pos = .deadline) : step s₀ = deadlineStep s := by
  rw [step_of_turn h, moveStep, hpos]

theorem step_of_turn_read (h : s₀.Turn s) (hpos : s.pos = .read) : step s₀ = readStep s := by
  rw [step_of_turn h, moveStep, hpos]

end

/-! ## The precondition of TRANSACT (R295, R351, R364) -/

theorem whenFree_of_released {s : State} (h : s.thnd = .released) (k : State → Answer) :
    whenFree s k = .refused .afterRelease := if_pos h

theorem whenFree_of_pending {s : State} (hheld : s.thnd = .held) (hpend : s.pend ≠ none) (k : State → Answer) :
    whenFree s k = .refused .overlappingTransaction := by
  obtain ⟨h, -⟩ | ⟨-, -, h⟩ | ⟨-, h, -⟩ := whenFree_cases s k
  · simp [hheld] at h
  · exact h
  · exact absurd h hpend

/-- R295: whatever a request instruction does, it does under TRANSACT's precondition. -/
theorem exec_request_eq_whenFree {i : Instr} (hi : i.isResponse = false) (s : State) :
    ∃ k, exec i s = whenFree s k := by
  obtain ⟨h, heq⟩ | ⟨e, heq⟩ := exec_request_cases hi s
  · exact ⟨_, heq⟩
  · exact ⟨_, heq⟩

/-- Settles O28: a request instruction and a direct TRANSACT both begin with the check of the precondition. -/
theorem requestsNeedAFreeInstance : Obligations.RequestsNeedAFreeInstance := by
  refine ⟨fun s i hi => ?_, fun s₀ s hturn hpos => ?_⟩
  · obtain ⟨k, hexec⟩ := exec_request_eq_whenFree hi s
    rw [hexec]
    exact ⟨fun h => whenFree_of_released h k, fun hheld hpend => whenFree_of_pending hheld hpend k⟩
  · rw [step_of_turn_sendDirect hturn hpos]
    exact ⟨fun h => whenFree_of_released h _, fun hheld hpend => whenFree_of_pending hheld hpend _⟩

/-! ## S1 to S5 on a transport that fails (R297, R298, R330, R376) -/

/-- R178, R180: a request that meets its selector and text bounds is transmitted. -/
theorem exec_request_of_admitted {i : Instr} (hi : i.isResponse = false) {s : State} (ha : Admitted s.par i) :
    ∃ h, exec i s = transmit i.addr (instrCmd s.par i) i.data h s := by
  cases i with
  | reqGetUsbString addr data =>
    obtain ⟨slot, rest, rfl, hslot⟩ := ha
    exact ⟨.usbString slot, by simp only [exec, execReqGetUsbString, slotOf_cons hslot]; rfl⟩
  | reqSetUsbString addr data =>
    obtain ⟨slot, rest, rfl, hslot, hlen⟩ := ha
    exact ⟨.status, by simp only [exec, execReqSetUsbString, slotOf_cons hslot, if_neg hlen.not_gt]; rfl⟩
  | reqGetInfo | reqSendKbGeneral | reqSendMsAbs | reqSendMsRel | reqGetParaCfg | reqSetParaCfg | reqSetDefaultCfg
  | reqReset => exact ⟨_, rfl⟩
  | rspGetInfo | rspSendKbGeneral | rspSendMsAbs | rspSendMsRel | rspGetParaCfg | rspSetParaCfg | rspGetUsbString
  | rspSetUsbString | rspSetDefaultCfg | rspReset => cases hi

/-- R85, R93: the DATA of a request fits a frame, whatever the parameters are. -/
theorem request_data_length_le {par : Params} {i : Instr} (hi : i.isResponse = false)
    (hw : i.wellFormed par = true) : i.data.length ≤ maxPayload := by
  cases i with
  | reqGetInfo | reqGetParaCfg | reqSetDefaultCfg | reqReset => exact Nat.zero_le _
  | reqSendKbGeneral | reqSendMsAbs | reqSendMsRel | reqSetParaCfg | reqGetUsbString | reqSetUsbString =>
    exact of_decide_eq_true hw
  | rspGetInfo | rspSendKbGeneral | rspSendMsAbs | rspSendMsRel | rspGetParaCfg | rspSetParaCfg | rspGetUsbString
  | rspSetUsbString | rspSetDefaultCfg | rspReset => cases hi

/-- R296: the flush touches nothing but `RXBUF`. -/
theorem flush_eq (s : State) : s.flush = { s with rxbuf := if s.par.flushOnRequest then [] else s.rxbuf } := by
  unfold State.flush
  split <;> rfl

section
variable {s : State} {payload : Bytes}

/-- R297 S2: a closed transport ends the transaction after the one call of `is_open`. -/
theorem transmit_of_closed (hs : s.Ready) (hp : payload.length ≤ maxPayload) (ho : s.env.opens.now = false)
    (addr cmd : Byte) (h : Handler) :
    transmit addr cmd payload h s = .next (s.started.askOpen.ended (.hard (.transport .closed))) := by
  rw [transmit, whenFree_of_ready hs]
  obtain ⟨hnone, -⟩ | ⟨-, -, heq⟩ | ⟨-, hopen, -⟩ := sendRequest_cases addr cmd payload h s
  · exact absurd (encodeFrame_eq_none_iff.mp hnone) hp.not_gt
  · exact heq
  · simp [ho] at hopen

/-- R297 S2 to S4: with an open transport and a payload that fits, SEQR gets to the write. -/
theorem transmit_of_open (hs : s.Ready) (hp : payload.length ≤ maxPayload) (ho : s.env.opens.now = true)
    (addr cmd : Byte) (h : Handler) :
    transmit addr cmd payload h s =
      writeRequest addr cmd h (frameBytes addr cmd payload) s.started.askOpen.flush := by
  rw [transmit, whenFree_of_ready hs]
  obtain ⟨hnone, -⟩ | ⟨-, hclosed, -⟩ | ⟨-, -, heq⟩ := sendRequest_cases addr cmd payload h s
  · exact absurd (encodeFrame_eq_none_iff.mp hnone) hp.not_gt
  · simp [ho] at hclosed
  · exact heq

/-- R290: up to S4 nothing has asked the transport to write. -/
theorem started_askOpen_flush_writes (s : State) : s.started.askOpen.flush.env.writes = s.env.writes := by
  rw [State.flush_env]
  rfl

/-- R297 S4, R330: a failed write ends the transaction after its one call. -/
theorem transmit_of_writeFails (hs : s.Ready) (hp : payload.length ≤ maxPayload) (ho : s.env.opens.now = true)
    {e : TransportError} (hw : s.env.writes.now = .fails e) (addr cmd : Byte) (h : Handler) :
    transmit addr cmd payload h s = .next
      (({ s.started with
          rxbuf := if s.par.flushOnRequest then [] else s.rxbuf
          env   := { s.env with opens := s.env.opens.tail, writes := s.env.writes.tail }
          calls := .write (frameBytes addr cmd payload) :: .isOpen :: s.calls } : State).ended
        (.hard (.transport (.writeFailed e)))) := by
  rw [transmit_of_open hs hp ho, writeRequest, started_askOpen_flush_writes, hw, flush_eq]
  rfl

/-- R376: a write that never returns. -/
theorem transmit_of_writeHangs (hs : s.Ready) (hp : payload.length ≤ maxPayload) (ho : s.env.opens.now = true)
    (hw : s.env.writes.now = .hangs) (addr cmd : Byte) (h : Handler) :
    transmit addr cmd payload h s = .fault .writeNeverReturns := by
  rw [transmit_of_open hs hp ho, writeRequest, started_askOpen_flush_writes, hw]

end

/-- Settles O27: an admitted request and a direct TRANSACT transmit their own frame, with whatever handler. -/
theorem requestsReportTransportFailures : Obligations.RequestsReportTransportFailures := by
  refine ⟨fun s i hi hw ha hs => ?_, fun s₀ s hturn hpos hs hp => ?_⟩
  · obtain ⟨h, hexec⟩ := exec_request_of_admitted hi ha
    rw [hexec]
    have hp := request_data_length_le hi hw
    exact ⟨fun ho => transmit_of_closed hs hp ho _ _ h, fun _ ho hw => transmit_of_writeFails hs hp ho hw _ _ h,
      fun ho hw => transmit_of_writeHangs hs hp ho hw _ _ h⟩
  · rw [step_of_turn_sendDirect hturn hpos]
    exact ⟨fun ho => transmit_of_closed hs hp ho _ _ s.hnd, fun _ ho hw => transmit_of_writeFails hs hp ho hw _ _ s.hnd,
      fun ho hw => transmit_of_writeHangs hs hp ho hw _ _ s.hnd⟩

/-! ## S6: what a parse leads to (R299, R301, R302) -/

/-- R133: where the outcome is not `FrameOk`, no frame is delivered. -/
theorem tryParse_frame_eq_none {b : Bytes} (h : (tryParse b).outcome ≠ .frameOk) : (tryParse b).frame = none :=
  Option.not_isSome_iff_eq_none.mp (mt (tryParse_frame_outcome b).mp h)

/-- R133: a delivered frame is a candidate taken. -/
theorem tryParse_takesCandidate_of_frame {b : Bytes} {f : Frame} (h : (tryParse b).frame = some f) :
    (tryParse b).TakesCandidate :=
  .inl ((tryParse_frame_outcome b).mp (Option.isSome_of_eq_some h))

/-- R133, R140: PARSE_STEP where no frame is delivered. -/
theorem parseStep_of_no_frame {s : State} (h : (tryParse s.rxbuf).frame = none) :
    s.parseStep = { s with
      rxbuf := s.rxbuf.drop (tryParse s.rxbuf).consumed
      fr := ⟨false, Config.freeFrame s.free⟩
      free := s.free + 1 } := by
  simp only [State.parseStep, State.loadFr, h]

/-- R302: a discard event goes round again. -/
theorem parsePosStep_of_sumError {s : State} (h : (tryParse s.rxbuf).outcome = .sumError) :
    parsePosStep s = .next s.parseStep := by
  have hnone : (tryParse s.rxbuf).frame = none := tryParse_frame_eq_none (by simp [h])
  simp only [parsePosStep, hnone, h]

/-- R299: with no whole candidate SEQR goes on to S7. -/
theorem parsePosStep_of_stops {s : State} (h : (tryParse s.rxbuf).Stops) :
    parsePosStep s = .next { s.parseStep with pos := .deadline } := by
  obtain h | h := h
  all_goals
    have hnone : (tryParse s.rxbuf).frame = none := tryParse_frame_eq_none (by simp [h])
    simp only [parsePosStep, hnone, h]

theorem parsePosStep_of_frame {s : State} {f : Frame} (h : (tryParse s.rxbuf).frame = some f) :
    parsePosStep s = takeFrame f s.parseStep := by
  simp only [parsePosStep, h]

/-- R301: a frame that does not correlate is consumed, and scanning goes on. -/
theorem takeFrame_of_not_correlate {f : Frame} {s : State} (hc : s.par.codesOk = true)
    (hp : f.payload.length ≤ maxPayload)
    (h : ∀ p, s.pend = some p → correlate s.par p f.addr f.cmd = false) : takeFrame f s = .next s := by
  rw [takeFrame_eq_respond_handleReply hc hp, respond_of_not_correlate h]

/-- Settles O35: each outcome of the parse leads on from the state that PARSE_STEP leaves. -/
theorem waitingParsesUntilACorrelatedFrame : Obligations.WaitingParsesUntilACorrelatedFrame := by
  intro s₀ s hturn hpos
  rw [step_of_turn_parse hturn hpos]
  refine ⟨fun h => ?discard, fun h => ?stops, fun f hf hmismatch => ?frame⟩
  case discard =>
    rw [parsePosStep_of_sumError h, parseStep_of_no_frame (tryParse_frame_eq_none (by simp [h]))]
  case stops =>
    have hnone : (tryParse s.rxbuf).frame = none := tryParse_frame_eq_none (by rcases h with h | h <;> simp [h])
    rw [parsePosStep_of_stops h, parseStep_of_no_frame hnone]
  case frame =>
    obtain ⟨-, hcodes, -⟩ := s.par.wf_iff.mp (by rw [turn_par hturn]; exact hturn.1)
    obtain ⟨hp, -⟩ := drop_eq_frameBytes_of_tryParse hf
    have hdropped : ∀ p, s.parseStep.pend = some p → correlate s.parseStep.par p f.addr f.cmd = false := by
      simpa using fun p hpend => not_correlate_of_mismatch (hmismatch p hpend)
    rw [parsePosStep_of_frame hf, takeFrame_of_not_correlate (by simpa using hcodes) hp hdropped,
      parseStep_of_frame hf]

/-! ## S7: the deadline (R304, R323) -/

theorem deadlineStep_of_fired {s : State} (h : s.env.deadlines.now = true) :
    deadlineStep s = .next (s.sampleDeadline.finish (.soft .timeout)) := if_pos h

theorem deadlineStep_of_not_fired {s : State} (h : s.env.deadlines.now = false) :
    deadlineStep s = .next { s.sampleDeadline with pos := .read } := if_neg (by simp [h])

/-- Settles O37: the two answers that a sample can give. -/
theorem deadlineEndsTheWait : Obligations.DeadlineEndsTheWait := by
  intro s₀ s hturn hpos
  rw [step_of_turn_deadline hturn hpos]
  exact ⟨deadlineStep_of_fired, deadlineStep_of_not_fired⟩

/-! ## S8: the read (R291, R299, R305, R331) -/

section
variable {s : State}

theorem readStep_of_closed (h : s.env.opens.now = false) :
    readStep s = .next (s.askOpen.finish (transportReply .closed)) := if_neg (by simp [h])

theorem readStep_of_fails (ho : s.env.opens.now = true) {e : TransportError} (h : s.env.reads.now = .fails e) :
    readStep s = .next (s.askOpen.callRead.finish (transportReply (.readFailed e))) := by
  simp only [readStep, ho, if_true, State.askOpen_env, h]

theorem readStep_of_hangs (ho : s.env.opens.now = true) (h : s.env.reads.now = .hangs) :
    readStep s = .fault .readNeverReturns := by
  simp only [readStep, ho, if_true, State.askOpen_env, h]

theorem readStep_of_pushed (ho : s.env.opens.now = true) {chunk : Bytes} (h : s.env.reads.now = .bytes chunk)
    {t : State} (hpush : s.askOpen.callRead.rxPush (chunk.take s.par.readMax) = some t) :
    readStep s = .next { t with pos := .parse } := by
  simp only [readStep, ho, if_true, State.askOpen_env, h, hpush]

theorem readStep_of_overflow (ho : s.env.opens.now = true) {chunk : Bytes} (h : s.env.reads.now = .bytes chunk)
    (hpush : s.askOpen.callRead.rxPush (chunk.take s.par.readMax) = none) :
    readStep s = .next (s.askOpen.callRead.finish (.hard .rxOverflow)) := by
  simp only [readStep, ho, if_true, State.askOpen_env, h, hpush]

end

/-- R291: a failed read leaves nothing for the next one. -/
theorem readsLeft_of_fails {c : Script ReadAnswer} {e : TransportError} (h : c.now = .fails e) (max : Nat) :
    readsLeft max c = c.tail := by
  simp only [readsLeft, h]

/-- Settles O38: S8 answer by answer of `is_open` and of `read`. -/
theorem readAppendsOneChunk : Obligations.ReadAppendsOneChunk := by
  intro s₀ s hturn hpos
  rw [step_of_turn_read hturn hpos]
  refine ⟨readStep_of_closed, fun e ho h => ?fails, readStep_of_hangs, fun chunk ho h hfits => ?fits,
    fun chunk cap ho h hcap hlt => ?overflow⟩
  case fails =>
    rw [readStep_of_fails ho h, ← readsLeft_of_fails h s.par.readMax]
    rfl
  case fits => exact readStep_of_pushed ho h (rxPush_of_fits hfits)
  case overflow => exact readStep_of_overflow ho h (rxPush_of_overflow hcap hlt)

/-! ## Everything FC can do while it waits (R297 S6 to S8) -/

/-- R297 S6 to S8: one constructor for each way a move of a waiting FC can answer; that `moveStep` answers so is
`moveStep_waitAnswer`. -/
inductive WaitAnswer (s : State) : Answer → Prop where
  /-- R303: a correlated frame ends the transaction -/
  | delivered (r : Reply) (hpos : s.pos = .parse) : WaitAnswer s (.next (s.parseStep.finish r))
  /-- R301, R302: an uncorrelated frame or a discard event is consumed -/
  | consumed (hpos : s.pos = .parse) (h : (tryParse s.rxbuf).TakesCandidate) : WaitAnswer s (.next s.parseStep)
  /-- R299: no whole candidate is left -/
  | scanned (hpos : s.pos = .parse) (h : (tryParse s.rxbuf).Stops) :
      WaitAnswer s (.next { s.parseStep with pos := .deadline })
  /-- R304: the deadline has fired -/
  | timedOut (hpos : s.pos = .deadline) : WaitAnswer s (.next (s.sampleDeadline.finish (.soft .timeout)))
  /-- R304: the deadline has not fired -/
  | sampled (hpos : s.pos = .deadline) (h : s.env.deadlines.now = false) :
      WaitAnswer s (.next { s.sampleDeadline with pos := .read })
  /-- R305: the transport is closed -/
  | closed (hpos : s.pos = .read) : WaitAnswer s (.next (s.askOpen.finish (transportReply .closed)))
  /-- R305, R331: the read fails or its bytes do not fit -/
  | readFailed (r : Reply) (hpos : s.pos = .read) : WaitAnswer s (.next (s.askOpen.callRead.finish r))
  /-- R376: the read never returns -/
  | readHung (hpos : s.pos = .read) (h : s.env.reads.now = .hangs) : WaitAnswer s (.fault .readNeverReturns)
  /-- R299: the bytes of one read -/
  | received (chunk : Bytes) (hpos : s.pos = .read) :
      WaitAnswer s (.next { s.askOpen.callRead with rxbuf := s.rxbuf ++ chunk, pos := .parse })

theorem parsePosStep_waitAnswer {s : State} (hpos : s.pos = .parse) : WaitAnswer s (parsePosStep s) := by
  cases hf : (tryParse s.rxbuf).frame with
  | some f =>
    obtain ⟨addr, cmd, r, htake⟩ := takeFrame_eq_respond f s.parseStep
    rw [parsePosStep_of_frame hf, htake]
    obtain ⟨p, -, -, heq⟩ | ⟨-, heq⟩ := respond_cases (rfl : respond addr cmd r s.parseStep = _)
    · exact heq ▸ .delivered r hpos
    · exact heq ▸ .consumed hpos (tryParse_takesCandidate_of_frame hf)
  | none =>
    obtain ⟨h | h, -⟩ | ⟨h, -⟩ := tryParse_takesCandidate_or_stops s.rxbuf
    · simpa [hf] using (tryParse_frame_outcome s.rxbuf).mpr h
    · exact parsePosStep_of_sumError h ▸ .consumed hpos (.inr h)
    · exact parsePosStep_of_stops h ▸ .scanned hpos h

theorem deadlineStep_waitAnswer {s : State} (hpos : s.pos = .deadline) : WaitAnswer s (deadlineStep s) := by
  cases h : s.env.deadlines.now with
  | true => exact deadlineStep_of_fired h ▸ .timedOut hpos
  | false => exact deadlineStep_of_not_fired h ▸ .sampled hpos h

theorem readStep_waitAnswer {s : State} (hpos : s.pos = .read) : WaitAnswer s (readStep s) := by
  cases ho : s.env.opens.now with
  | false => exact readStep_of_closed ho ▸ .closed hpos
  | true =>
    cases h : s.env.reads.now with
    | hangs => exact readStep_of_hangs ho h ▸ .readHung hpos h
    | fails e => exact readStep_of_fails ho h ▸ .readFailed _ hpos
    | bytes chunk =>
      cases hpush : s.askOpen.callRead.rxPush (chunk.take s.par.readMax) with
      | none => exact readStep_of_overflow ho h hpush ▸ .readFailed _ hpos
      | some t =>
        obtain ⟨-, rfl⟩ := rxPush_eq_some hpush
        exact readStep_of_pushed ho h hpush ▸ .received _ hpos

theorem moveStep_waitAnswer {s : State} (h : s.pos.waiting = true) : WaitAnswer s (moveStep s) := by
  unfold moveStep
  cases hpos : s.pos with
  | parse => exact parsePosStep_waitAnswer hpos
  | deadline => exact deadlineStep_waitAnswer hpos
  | read => exact readStep_waitAnswer hpos
  | idle | send | sendDirect => simp [hpos, SeqPos.waiting] at h

/-! ## Which steps write a frame and count a transaction (R28, R317) -/

@[simp] theorem State.started_seq (s : State) : s.started.seq = s.seq + 1 := rfl
@[simp] theorem State.started_calls (s : State) : s.started.calls = s.calls := rfl
@[simp] theorem State.replied_seq (s : State) (r : Reply) : (s.replied r).seq = s.seq := rfl
@[simp] theorem State.replied_calls (s : State) (r : Reply) : (s.replied r).calls = s.calls := rfl
@[simp] theorem State.replied_pos (s : State) (r : Reply) : (s.replied r).pos = s.pos := rfl
@[simp] theorem State.toSend_seq (s : State) (cmd : Byte) (payload : Bytes) (h : Handler) :
    (s.toSend cmd payload h).seq = s.seq := rfl
@[simp] theorem State.toSend_calls (s : State) (cmd : Byte) (payload : Bytes) (h : Handler) :
    (s.toSend cmd payload h).calls = s.calls := rfl

@[simp] theorem drain_seq (s : State) : s.drain.2.seq = s.seq := by rw [drain_eq]
@[simp] theorem drain_calls (s : State) : s.drain.2.calls = s.calls := by rw [drain_eq]

/-- R317: how many of the calls into the transport are writes. -/
def writesIn (calls : List TransportCall) : Nat :=
  (calls.filter fun c => match c with | .write _ => true | _ => false).length

@[simp] theorem State.writesMade_eq (s : State) : s.writesMade = writesIn s.calls := rfl

@[simp] theorem writesIn_isOpen (calls : List TransportCall) : writesIn (.isOpen :: calls) = writesIn calls := rfl
@[simp] theorem writesIn_read (n : Nat) (calls : List TransportCall) :
    writesIn (.read n :: calls) = writesIn calls := rfl
@[simp] theorem writesIn_close (calls : List TransportCall) : writesIn (.close :: calls) = writesIn calls := rfl
@[simp] theorem writesIn_write (f : Bytes) (calls : List TransportCall) :
    writesIn (.write f :: calls) = writesIn calls + 1 := rfl

/-- R28, R317: if the answer is a next state, it has written no frame and counted no transaction. -/
def SendsNothing (s : State) (a : Answer) : Prop := ∀ t, a = .next t → t.writesMade = s.writesMade ∧ t.seq = s.seq

@[simp] theorem sendsNothing_next {s t : State} :
    SendsNothing s (.next t) ↔ writesIn t.calls = writesIn s.calls ∧ t.seq = s.seq := by simp [SendsNothing]

@[simp] theorem sendsNothing_fault (s : State) (f : Fault) : SendsNothing s (.fault f) := by simp [SendsNothing]

@[simp] theorem sendsNothing_refused (s : State) (r : Refusal) : SendsNothing s (.refused r) := by simp [SendsNothing]

/-- R297: S6 to S8 ask the transport whether it is open and read from it. -/
theorem WaitAnswer.sendsNothing {s : State} {a : Answer} (h : WaitAnswer s a) : SendsNothing s a := by
  cases h <;> simp

/-- R2: an operation of HOST writes nothing; TRANSACT's start only fills `TXR`, and release only closes. -/
theorem HeldAnswer.sendsNothing {op : HostOp} {s : State} {a : Answer} (h : HeldAnswer s op a) : SendsNothing s a := by
  cases h with
  | pushed hp =>
    obtain ⟨-, rfl⟩ := rxPush_eq_some hp
    simp
  | result | illFormed | typed | direct | parsed | parseStepped | drained | fed | released => simp

theorem runOp_sendsNothing (op : HostOp) (s : State) : SendsNothing s (runOp op s) := by
  unfold runOp
  split
  · simp
  · exact (runHeld_answers op s).sendsNothing

theorem idleStep_sendsNothing (s : State) : SendsNothing s (idleStep s) := by
  unfold idleStep
  split
  · simp
  · exact runOp_sendsNothing _ _

theorem moveStep_sendsNothing {s : State} (h : s.pos.sending = false) : SendsNothing s (moveStep s) := by
  have hwait : s.pos.waiting = true → SendsNothing s (moveStep s) := fun hw => (moveStep_waitAnswer hw).sendsNothing
  cases hpos : s.pos with
  | idle => simpa only [moveStep, hpos] using idleStep_sendsNothing s
  | parse | deadline | read => exact hwait (by rw [hpos]; rfl)
  | send | sendDirect => simp [hpos, SeqPos.sending] at h

/-- R58, R351: a call of a pure function leaves the position, the calls and `SEQ` as they are. -/
theorem runOp_pure_cases (op : PureOp) (s : State) :
    (∃ r, runOp (.pure op) s = .next (s.replied r)) ∨ (∃ r, runOp (.pure op) s = .refused r) := by
  unfold runOp
  split
  · exact .inr ⟨_, rfl⟩
  · obtain ⟨r, h⟩ | ⟨c, -, -, h⟩ := runPure_cases op s
    · exact .inl ⟨r, h⟩
    · exact .inr ⟨_, h⟩

/-- R28, R317: if the answer is a next state, S1 to S5 are over, with nothing sent and nothing counted, or with one
transaction counted and at most one frame written. -/
def SendsOnce (s : State) (a : Answer) : Prop :=
  ∀ t, a = .next t → t.pos.sending = false ∧
    (t.seq = s.seq ∧ t.writesMade = s.writesMade ∨
      t.seq = s.seq + 1 ∧ (t.writesMade = s.writesMade ∨ t.writesMade = s.writesMade + 1))

@[simp] theorem sendsOnce_next {s t : State} :
    SendsOnce s (.next t) ↔ t.pos.sending = false ∧
      (t.seq = s.seq ∧ writesIn t.calls = writesIn s.calls ∨
        t.seq = s.seq + 1 ∧ (writesIn t.calls = writesIn s.calls ∨ writesIn t.calls = writesIn s.calls + 1)) := by
  simp [SendsOnce]

@[simp] theorem sendsOnce_fault (s : State) (f : Fault) : SendsOnce s (.fault f) := by simp [SendsOnce]

@[simp] theorem sendsOnce_refused (s : State) (r : Refusal) : SendsOnce s (.refused r) := by simp [SendsOnce]

@[simp] theorem sending_idle : SeqPos.sending .idle = false := rfl
@[simp] theorem sending_parse : SeqPos.sending .parse = false := rfl

theorem whenFree_sendsOnce {s : State} {k : State → Answer} (hk : SendsOnce s (k s)) : SendsOnce s (whenFree s k) := by
  obtain ⟨-, h⟩ | ⟨-, -, h⟩ | ⟨-, -, h⟩ := whenFree_cases s k <;> simp [h, hk]

/-- R297 S1 to S5: `SEQ` has been counted, and S4 makes the one call of `write` whether or not it succeeds. -/
theorem transmit_sendsOnce (addr cmd : Byte) (payload : Bytes) (h : Handler) (s : State) :
    SendsOnce s (transmit addr cmd payload h s) := by
  refine whenFree_sendsOnce ?_
  obtain ⟨-, heq⟩ | ⟨-, -, heq⟩ | ⟨-, -, heq⟩ := sendRequest_cases addr cmd payload h s
  · simp [heq]
  · simp [heq]
  · rw [heq]
    obtain ⟨-, hwrite⟩ | ⟨e, -, hwrite⟩ | ⟨-, hwrite⟩ :=
      writeRequest_cases addr cmd h (frameBytes addr cmd payload) s.started.askOpen.flush <;> simp [hwrite]

theorem refuseRequest_sendsOnce (e : EncodingError) (s : State) : SendsOnce s (refuseRequest e s) :=
  whenFree_sendsOnce (by simp)

theorem moveStep_sendsOnce {s : State} (h : s.pos.sending = true) : SendsOnce s (moveStep s) := by
  unfold moveStep
  cases hpos : s.pos with
  | send =>
    obtain ⟨addr, cmd, payload, hnd, heq⟩ | ⟨e, heq⟩ := sendStep_cases s
    · exact heq ▸ transmit_sendsOnce addr cmd payload hnd s
    · exact heq ▸ refuseRequest_sendsOnce e s
  | sendDirect => exact transmit_sendsOnce s.txr.addr s.txr.cmd s.txr.payload s.hnd s
  | idle | parse | deadline | read => simp [hpos, SeqPos.sending] at h

/-- R351: a step that answers a call of a pure function. -/
theorem step_of_asked {s t : State} {op : PureOp} (ha : s.aside.headD none = some op) (h : step s = .next t) :
    ∃ r, t = s.takeTurn.replied r := by
  cases hw : s.par.wf with
  | false => simp [step_of_not_wf hw] at h
  | true =>
    obtain ⟨op', -, hrun⟩ | ⟨hnone, -⟩ := step_of_wf hw
    · obtain ⟨r, heq⟩ | ⟨r, heq⟩ := runOp_pure_cases op' s.takeTurn
      · exact ⟨r, by simpa [hrun, heq] using h.symm⟩
      · simp [hrun, heq] at h
    · cases ha.symm.trans hnone

/-- R351: a step with no call of HOST is FC's own move. -/
theorem step_of_not_asked {s t : State} (ha : s.aside.headD none = none) (h : step s = .next t) :
    moveStep s.takeTurn = .next t := by
  cases hw : s.par.wf with
  | false => simp [step_of_not_wf hw] at h
  | true =>
    obtain ⟨op, hsome, -⟩ | ⟨-, hmove⟩ := step_of_wf hw
    · cases ha.symm.trans hsome
    · exact hmove ▸ h

/-- Settles O46: HOST's call only adds a result; FC's own move sends nothing, or S1 to S5 send once. -/
theorem oneTransactionWritesOneFrame : Obligations.OneTransactionWritesOneFrame := by
  intro s t hstep
  cases ha : s.aside.headD none with
  | some op =>
    obtain ⟨r, rfl⟩ := step_of_asked ha hstep
    simp
  | none =>
    have hmove := step_of_not_asked ha hstep
    refine ⟨fun hpos => moveStep_sendsNothing (s := s.takeTurn) hpos t hmove, fun hpos => ?_⟩
    obtain ⟨hsent, hcounts⟩ := moveStep_sendsOnce (s := s.takeTurn) hpos t hmove
    simp only [State.writesMade_eq, State.takeTurn_seq, State.takeTurn_calls] at hcounts ⊢
    refine ⟨fun _ => hsent, nofun, ?_, ?_, ?_⟩ <;> omega

/-! ## How far a waiting FC is from its result (R304, R318) -/

/-- R304: the deadline fires at some sample. -/
def Script.Fires (c : Script Bool) : Prop := true ∈ c.head ∨ c.rest = true

/-- R304: how many listed samples come before the deadline fires. -/
def Script.samplesLeft (c : Script Bool) : Nat := c.head.findIdx id

/-- R304: a sample that has not fired brings the one that does nearer. -/
theorem Script.Fires.tail_of_not_fired {c : Script Bool} (hc : c.Fires) (h : c.now = false) :
    c.tail.Fires ∧ c.tail.samplesLeft < c.samplesLeft := by
  obtain ⟨head, rest⟩ := c
  cases head with
  | nil =>
    obtain h' | h' := hc
    · cases h'
    · exact absurd h (by simp [Script.now, show rest = true from h'])
  | cons b bs =>
    obtain rfl : b = false := h
    refine ⟨?_, by simp [Script.samplesLeft, Script.tail, List.findIdx_cons]⟩
    simpa [Script.Fires, Script.tail] using hc

/-- R291, R318: what one `read` leaves over is bytes, so the calls after it return as well. -/
theorem readsLeft_returns {c : Script ReadAnswer} (hrest : c.rest ≠ .hangs) (hhead : ∀ a ∈ c.head, a ≠ .hangs)
    (max : Nat) : (readsLeft max c).rest ≠ .hangs ∧ ∀ a ∈ (readsLeft max c).head, a ≠ .hangs := by
  have htail : ∀ a ∈ c.tail.head, a ≠ .hangs := fun a h => hhead a (List.mem_of_mem_tail h)
  unfold readsLeft
  split
  · split
    · exact ⟨hrest, by simpa using htail⟩
    · exact ⟨hrest, htail⟩
  · exact ⟨hrest, htail⟩
  · exact ⟨hrest, htail⟩

/-- R318: an environment that returns from every `read` returns from this one. -/
theorem Env.Returns.now_ne_hangs {e : Env} (h : e.Returns) : e.reads.now ≠ .hangs := by
  obtain ⟨hrest, hhead⟩ := h
  unfold Script.now
  cases hlist : e.reads.head with
  | nil => exact hrest
  | cons a as => exact hhead a (by simp [hlist])

/-- R297: the moves from a waiting position to S7, which decides whether SEQR goes round again. -/
def SeqPos.toDeadline : SeqPos → Nat
  | .read => 2
  | .parse => 1
  | .idle | .send | .sendDirect | .deadline => 0

/-- R297, R304: the moves to another position that are left before the deadline fires: three for each round. -/
def State.movesLeft (s : State) : Nat := 3 * s.env.deadlines.samplesLeft + s.pos.toDeadline

/-- What O40 asks of a transaction that waits (R304, R318, R351). -/
structure State.Waits (s : State) : Prop where
  wf      : s.par.wf = true
  waiting : s.pos.waiting = true
  fires   : s.env.deadlines.Fires
  returns : s.env.Returns
  asks    : ∀ op, some op ∈ s.aside → s.thnd = .held ∧ ∀ c, op = .cfgEncode c → cfgWellFormed s.par c = true

/-- R297: a move after which FC waits as before and is nearer to the deadline, or at the same position with fewer bytes
to scan. -/
structure State.WaitsOn (s t : State) : Prop where
  waits   : t.Waits
  aside   : t.aside = s.aside
  replies : t.replies = s.replies
  nearer  : t.movesLeft < s.movesLeft ∨ t.movesLeft = s.movesLeft ∧ t.rxbuf.length < s.rxbuf.length

/-- Only the parameters, the handle, HOST's schedule, the position and two of the environment's inputs count. -/
theorem State.Waits.of_eq {s t : State} (h : s.Waits) (hpos : t.pos.waiting = true) (hfires : t.env.deadlines.Fires)
    (hreturns : t.env.Returns) (hpar : t.par = s.par := by simp) (hthnd : t.thnd = s.thnd := by simp)
    (haside : t.aside = s.aside := by simp) : t.Waits where
  wf := hpar ▸ h.wf
  waiting := hpos
  fires := hfires
  returns := hreturns
  asks := by simpa only [hpar, hthnd, haside] using h.asks

/-- R302: PARSE_STEP of a candidate shortens `RXBUF`. -/
theorem State.Waits.waitsOn_consumed {s : State} (h : s.Waits) (hc : (tryParse s.rxbuf).TakesCandidate) :
    s.WaitsOn s.parseStep where
  waits := h.of_eq (by simpa using h.waiting) (by simpa using h.fires) (by simpa using h.returns)
  aside := by simp
  replies := by simp
  nearer := by
    have hshorter : s.parseStep.rxbuf.length < s.rxbuf.length := by
      obtain ⟨-, hsix, hle⟩ | ⟨hstops, -⟩ := tryParse_takesCandidate_or_stops s.rxbuf
      · simp only [State.parseStep_rxbuf, List.length_drop]
        omega
      · rcases hc with hc | hc <;> simp [ParseResult.Stops, hc] at hstops
    exact .inr ⟨by simp [State.movesLeft], hshorter⟩

/-- R299: from S6 to S7. -/
theorem State.Waits.waitsOn_scanned {s : State} (h : s.Waits) (hpos : s.pos = .parse) :
    s.WaitsOn { s.parseStep with pos := .deadline } where
  waits := h.of_eq rfl (by simpa using h.fires) (by simpa using h.returns)
  aside := by simp
  replies := by simp
  nearer := .inl (by simp [State.movesLeft, hpos, SeqPos.toDeadline])

/-- R304: from S7 to S8, with a sample taken. -/
theorem State.Waits.waitsOn_sampled {s : State} (h : s.Waits) (hnow : s.env.deadlines.now = false) :
    s.WaitsOn { s.sampleDeadline with pos := .read } := by
  obtain ⟨hfires, hfewer⟩ := h.fires.tail_of_not_fired hnow
  refine ⟨h.of_eq rfl hfires h.returns, rfl, rfl, .inl ?_⟩
  simp only [State.movesLeft, State.sampleDeadline_env, SeqPos.toDeadline]
  omega

/-- R299: from S8 back to S6. -/
theorem State.Waits.waitsOn_received {s : State} (h : s.Waits) (hpos : s.pos = .read) (chunk : Bytes) :
    s.WaitsOn { s.askOpen.callRead with rxbuf := s.rxbuf ++ chunk, pos := .parse } where
  waits := h.of_eq rfl h.fires (readsLeft_returns h.returns.1 h.returns.2 _)
  aside := rfl
  replies := rfl
  nearer := .inl (by simp [State.movesLeft, hpos, SeqPos.toDeadline])

/-- R297: a move of a waiting FC ends the transaction with a result, or FC waits on. -/
theorem WaitAnswer.ends_or_waitsOn {s : State} {a : Answer} (ha : WaitAnswer s a) (h : s.Waits) :
    (∃ t r, a = .next t ∧ t.pos = .idle ∧ t.pend = none ∧ t.replies = r :: s.replies) ∨
    (∃ t, a = .next t ∧ s.WaitsOn t) := by
  cases ha with
  | delivered r => exact .inl ⟨_, r, rfl, rfl, rfl, by simp⟩
  | timedOut | closed | readFailed => exact .inl ⟨_, _, rfl, rfl, rfl, rfl⟩
  | consumed hpos hc => exact .inr ⟨_, rfl, h.waitsOn_consumed hc⟩
  | scanned hpos => exact .inr ⟨_, rfl, h.waitsOn_scanned hpos⟩
  | sampled hpos hnow => exact .inr ⟨_, rfl, h.waitsOn_sampled hnow⟩
  | received chunk hpos => exact .inr ⟨_, rfl, h.waitsOn_received hpos chunk⟩
  | readHung hpos hnow => exact absurd hnow h.returns.now_ne_hangs

/-! ## Every transaction returns (R304, R306, R351) -/

/-- R351: how many calls of pure functions HOST still makes. -/
def State.asksLeft (s : State) : Nat := (s.aside.filter Option.isSome).length

/-- R304, R306: the operation ends after finitely many steps, with one result behind those of at most the calls that
HOST still makes. -/
def State.Ends (s : State) : Prop :=
  ∃ k t r rs, Host.Core.run Sys2Proof.core k s = .next t ∧ t.pos = .idle ∧ t.pend = none ∧
    t.replies = r :: (rs ++ s.replies) ∧ rs.length ≤ s.asksLeft

/-- A run that begins with a step. -/
theorem run_succ_of_step {s t : State} (h : step s = .next t) (k : Nat) :
    Host.Core.run Sys2Proof.core (k + 1) s = Host.Core.run Sys2Proof.core k t := by
  have hcore : Sys2Proof.core.step s = .next t := h
  simp only [Host.Core.run, hcore]

/-- R306: the step that ends the transaction. -/
theorem State.Ends.of_last {s t : State} {r : Reply} (hstep : step s = .next t) (hpos : t.pos = .idle)
    (hpend : t.pend = none) (hreplies : t.replies = r :: s.replies) : s.Ends :=
  ⟨1, t, r, [], run_succ_of_step hstep 0, hpos, hpend, hreplies, Nat.zero_le _⟩

/-- R351: a step before the end adds results of HOST's calls only. -/
theorem State.Ends.of_step {s t : State} {rs : List Reply} (h : t.Ends) (hstep : step s = .next t)
    (hreplies : t.replies = rs ++ s.replies) (hasks : rs.length + t.asksLeft ≤ s.asksLeft) : s.Ends := by
  obtain ⟨k, u, r, rs', hrun, hpos, hpend, hend, hle⟩ := h
  refine ⟨k + 1, u, r, rs' ++ rs, (run_succ_of_step hstep k).trans hrun, hpos, hpend, ?_, ?_⟩
  · rw [hend, hreplies, List.append_assoc]
  · rw [List.length_append]
    omega

theorem State.Waits.takeTurn {s : State} (h : s.Waits) : s.takeTurn.Waits where
  wf := h.wf
  waiting := h.waiting
  fires := h.fires
  returns := h.returns
  asks op hmem := h.asks op (List.mem_of_mem_tail hmem)

/-- R318, R351: what grows smaller with every step: HOST's schedule and the moves left count together, since a step
takes from the one or from the other, or else shortens `RXBUF`. -/
def State.waitLeft (s : State) : Nat × Nat := (s.aside.length + s.movesLeft, s.rxbuf.length)

/-- R351: a step after which FC waits still, nearer to its end, with the results of at most the calls taken. -/
structure State.StepsOn (s t : State) : Prop where
  waits   : t.Waits
  replies : ∃ rs, t.replies = rs ++ s.replies ∧ rs.length + t.asksLeft ≤ s.asksLeft
  nearer  : Prod.Lex (· < ·) (· < ·) t.waitLeft s.waitLeft

/-- R351: an entry of HOST's schedule that calls a pure function stands first. -/
theorem aside_eq_cons_of_headD {s : State} {op : PureOp} (ha : s.aside.headD none = some op) :
    s.aside = some op :: s.aside.tail := by
  cases hlist : s.aside with
  | nil => simp [hlist] at ha
  | cons entry rest => simp_all

/-- R351: HOST's call while FC waits answers with one result, and FC waits as before. -/
theorem State.Waits.stepsOn_asked {s : State} (h : s.Waits) {op : PureOp} (ha : s.aside.headD none = some op) :
    ∃ t, step s = .next t ∧ s.StepsOn t := by
  have hcons := aside_eq_cons_of_headD ha
  obtain ⟨hheld, hgood⟩ := h.asks op (by rw [hcons]; exact List.mem_cons_self)
  have hrun : step s = runPure op s.takeTurn := step_of_asks (.inr ⟨h.wf, hheld, ha, rfl⟩)
  obtain ⟨r, heq⟩ | ⟨c, hc, hill, -⟩ := runPure_cases op s.takeTurn
  · refine ⟨_, hrun.trans heq, h.takeTurn.of_eq h.waiting h.fires h.returns rfl rfl rfl, ⟨[r], rfl, ?_⟩, ?_⟩
    · have hasks : s.asksLeft = s.takeTurn.asksLeft + 1 := by rw [State.asksLeft, hcons]; rfl
      rw [hasks, Nat.add_comm]
      rfl
    · have hshorter : s.aside.length = s.takeTurn.aside.length + 1 := by rw [hcons]; rfl
      exact .left _ _ (by rw [hshorter]; exact Nat.add_lt_add_right (Nat.lt_succ_self _) s.movesLeft)
  · rw [State.takeTurn_par, hgood c hc] at hill
    cases hill

/-- R297, R351: a move on which FC waits on is a step on which it does, whatever entry of HOST's schedule was taken. -/
theorem State.WaitsOn.stepsOn {s t : State} (h : s.takeTurn.WaitsOn t) : s.StepsOn t where
  waits := h.waits
  replies := by
    refine ⟨[], h.replies, ?_⟩
    have hsub : (s.aside.tail.filter Option.isSome).length ≤ (s.aside.filter Option.isSome).length :=
      ((List.tail_sublist s.aside).filter _).length_le
    simpa [State.asksLeft, h.aside] using hsub
  nearer := by
    have htail : t.aside.length ≤ s.aside.length := by simp [h.aside]
    have hmoves : s.takeTurn.movesLeft = s.movesLeft := rfl
    have hrxbuf : s.takeTurn.rxbuf = s.rxbuf := rfl
    have hnearer := h.nearer
    rw [Prod.lex_def]
    simp only [State.waitLeft]
    rw [hmoves, hrxbuf] at hnearer
    omega

/-- R304, R318, R351: a step of a transaction that waits ends it with one result, or FC waits on. -/
theorem State.Waits.step_ends_or_stepsOn {s : State} (h : s.Waits) :
    (∃ t r, step s = .next t ∧ t.pos = .idle ∧ t.pend = none ∧ t.replies = r :: s.replies) ∨
    (∃ t, step s = .next t ∧ s.StepsOn t) := by
  obtain ⟨op, ha, -⟩ | ⟨-, hmove⟩ := step_of_wf h.wf
  · exact .inr (h.stepsOn_asked ha)
  · rw [hmove]
    obtain hlast | ⟨t, heq, hon⟩ := (moveStep_waitAnswer h.takeTurn.waiting).ends_or_waitsOn h.takeTurn
    · exact .inl hlast
    · exact .inr ⟨t, heq, hon.stepsOn⟩

/-- R304, R318: a transaction that waits ends, since every step before its end brings it nearer. -/
theorem State.Waits.ends {s : State} (h : s.Waits) : s.Ends := by
  obtain ⟨t, r, hstep, hpos, hpend, hreplies⟩ | ⟨t, hstep, hon⟩ := h.step_ends_or_stepsOn
  · exact .of_last hstep hpos hpend hreplies
  · obtain ⟨rs, hreplies, hasks⟩ := hon.replies
    exact hon.waits.ends.of_step hstep hreplies hasks
termination_by s.waitLeft
decreasing_by exact hon.nearer

/-- Settles O40: the hypotheses are those of a transaction that waits. -/
theorem everyTransactionReturns : Obligations.EveryTransactionReturns := by
  intro s hwf hwaiting hfires hreturns hasks
  exact State.Waits.ends ⟨hwf, hwaiting, hfires, hreturns, hasks⟩

end Sys2Proof.Machine

/-! # Proofs for spec/60_exceptions.md: the errors of the packers, returned before TRANSACT (R324, R336 to R338) -/

namespace Sys2Proof.Machine

/-! ## The ranges of the packers' operands (R113, R324) -/

theorem inI8_iff (v : Int) : inI8 v = true ↔ -128 ≤ v ∧ v ≤ 127 := by
  simp [inI8]

theorem inU16_iff (v : Int) : inU16 v = true ↔ 0 ≤ v ∧ v ≤ 65535 := by
  simp [inU16]

/-! ## What the packers reject (R242, R266, R270, R274) -/

section
variable {par : Params}

theorem kbPack_of_tooManyKeys {r : KeyReport} (h : 6 < r.keycodes.length) : kbPack par r = none := if_pos h

theorem msRelPack_of_outOfRange {r : RelReport}
    (h : r.dx < -128 ∨ 127 < r.dx ∨ r.dy < -128 ∨ 127 < r.dy ∨ r.wheel < -128 ∨ 127 < r.wheel ∨
      r.buttons < 0 ∨ 255 < r.buttons) : msRelPack par r = none := by
  rw [msRelPack, if_neg]
  intro hall
  simp only [Bool.and_eq_true, inI8_iff, inU8_iff] at hall
  omega

theorem msAbsPack_of_outOfRange {r : AbsReport}
    (h : r.x < 0 ∨ 65535 < r.x ∨ r.y < 0 ∨ 65535 < r.y ∨ r.wheel < -128 ∨ 127 < r.wheel ∨
      r.buttons < 0 ∨ 255 < r.buttons) : msAbsPack par r = none := by
  rw [msAbsPack, if_neg]
  intro hall
  simp only [Bool.and_eq_true, inI8_iff, inU8_iff, inU16_iff] at hall
  omega

/-- R242, R337: the slot is checked first, whatever the text. -/
theorem strEncode_of_badSlot {slot : Nat} (h : 2 < slot) (text : Bytes) :
    strEncode par slot text = .inl .badSlot := if_pos h

theorem strEncode_of_tooLong {slot : Nat} {text : Bytes} (hs : slot ≤ 2) (ht : par.strMax < text.length) :
    strEncode par slot text = .inl .stringTooLong := by
  rw [strEncode, if_neg hs.not_gt, if_pos ht]

end

/-! ## The typed operations on operands that do not pack (R313, R314, R336) -/

/-- R313: `get_usb_descriptor` of a slot there is not ends before TRANSACT. -/
theorem opGetUsbDescriptor_of_badSlot {slot : Nat} (h : 2 < slot) (s : State) :
    opGetUsbDescriptor slot s = .next (s.replied (.hard (.encoding .badSlot))) := if_pos h

/-- R314: `set_usb_descriptor` ends before TRANSACT with the error that STR_ENCODE gives. -/
theorem opSetUsbDescriptor_of_inl {s : State} {slot : Nat} {text : Bytes} {e : EncodingError}
    (h : strEncode s.par slot text = .inl e) :
    opSetUsbDescriptor slot text s = .next (s.replied (.hard (.encoding e))) := by
  rw [opSetUsbDescriptor, h]
  rfl

/-- Settles O42: an operation that HOST invokes runs on the state with the call taken, and an operand that its packer
rejects leaves that state with the error as its result, so SEQR never begins. -/
theorem packErrorsPrecedeTheTransaction : Obligations.PackErrorsPrecedeTheTransaction := by
  intro s₀ s
  have hrun {op : HostOp} {a : Answer} (h : s₀.Invokes op s) (ha : runHeld op s = a) : step s₀ = a :=
    (step_of_invokes h).1.trans ha
  exact ⟨fun _ h hkeys => hrun h (packed_of_none (kbPack_of_tooManyKeys hkeys) _ _),
    fun _ h hrange => hrun h (packed_of_none (msRelPack_of_outOfRange hrange) _ _),
    fun _ h hrange => hrun h (packed_of_none (msAbsPack_of_outOfRange hrange) _ _),
    fun _ h hslot => hrun h (opGetUsbDescriptor_of_badSlot hslot s),
    fun _ text h hslot => hrun h (opSetUsbDescriptor_of_inl (strEncode_of_badSlot hslot text)),
    fun _ _ h hslot htext => hrun h (opSetUsbDescriptor_of_inl (strEncode_of_tooLong hslot htext))⟩

end Sys2Proof.Machine

/-! # Proofs for spec/70_reset_and_hazards.md: reset, release and the bound on `RXBUF` (R40, R331, R360, R364, R374) -/

namespace Sys2Proof.Machine

/-! ## Reset (R40, R360) -/

/-- Settles O49: `FR` holds nothing, no request is pending, `RXBUF` is empty and the byte-serial parser hunts. -/
theorem resetMeetsTheInvariant : Obligations.ResetMeetsTheInvariant where
  frOk := nofun
  seqOk := ⟨rfl, nofun⟩
  memOk := reset_memory_wf
  serOk := trivial

/-- Settles O52: the elements to which R40 gives a value, read off the fixed reset state. -/
theorem resetLeavesAnIdleEngine : Obligations.ResetLeavesAnIdleEngine := ⟨rfl, rfl, rfl, rfl, rfl, rfl, rfl⟩

/-! ## Release (R364) -/

@[simp] theorem State.started_thnd (s : State) : s.started.thnd = s.thnd := rfl
@[simp] theorem State.replied_thnd (s : State) (r : Reply) : (s.replied r).thnd = s.thnd := rfl
@[simp] theorem State.toSend_thnd (s : State) (cmd : Byte) (payload : Bytes) (h : Handler) :
    (s.toSend cmd payload h).thnd = s.thnd := rfl
@[simp] theorem drain_thnd (s : State) : s.drain.2.thnd = s.thnd := by rw [drain_eq]

/-- R364: how many of the calls into the transport are `close()`. -/
def closesIn (calls : List TransportCall) : Nat := (calls.filter fun c => c == .close).length

theorem State.closesMade_eq (s : State) : s.closesMade = closesIn s.calls := rfl

@[simp] theorem closesIn_isOpen (calls : List TransportCall) : closesIn (.isOpen :: calls) = closesIn calls := rfl
@[simp] theorem closesIn_read (n : Nat) (calls : List TransportCall) :
    closesIn (.read n :: calls) = closesIn calls := rfl
@[simp] theorem closesIn_write (f : Bytes) (calls : List TransportCall) :
    closesIn (.write f :: calls) = closesIn calls := rfl
@[simp] theorem closesIn_close (calls : List TransportCall) : closesIn (.close :: calls) = closesIn calls + 1 := rfl

/-- R364: if the answer is a next state, the handle and the number of `close()` calls are those of `s`, or the handle
that `s` held is released with one call more. -/
def ClosesAtRelease (s : State) (a : Answer) : Prop :=
  ∀ t, a = .next t → t.thnd = s.thnd ∧ t.closesMade = s.closesMade ∨
    s.thnd = .held ∧ t.thnd = .released ∧ t.closesMade = s.closesMade + 1

@[simp] theorem closesAtRelease_next {s t : State} :
    ClosesAtRelease s (.next t) ↔ t.thnd = s.thnd ∧ closesIn t.calls = closesIn s.calls ∨
      s.thnd = .held ∧ t.thnd = .released ∧ closesIn t.calls = closesIn s.calls + 1 := by
  simp [ClosesAtRelease, State.closesMade_eq]

@[simp] theorem closesAtRelease_fault (s : State) (f : Fault) : ClosesAtRelease s (.fault f) := by
  simp [ClosesAtRelease]

@[simp] theorem closesAtRelease_refused (s : State) (r : Refusal) : ClosesAtRelease s (.refused r) := by
  simp [ClosesAtRelease]

/-- R297: S6 to S8 ask the transport whether it is open and read from it. -/
theorem WaitAnswer.closesAtRelease {s : State} {a : Answer} (h : WaitAnswer s a) : ClosesAtRelease s a := by
  cases h <;> simp

/-- R2, R364: of the operations of HOST only release calls `close()`. -/
theorem HeldAnswer.closesAtRelease {op : HostOp} {s : State} {a : Answer} (h : HeldAnswer s op a)
    (hheld : s.thnd = .held) : ClosesAtRelease s a := by
  cases h with
  | pushed hp =>
    obtain ⟨-, rfl⟩ := rxPush_eq_some hp
    simp
  | released => exact closesAtRelease_next.mpr (.inr ⟨hheld, rfl, rfl⟩)
  | result | illFormed | typed | direct | parsed | parseStepped | drained | fed => simp

/-- R364, U11: no operation runs after release. -/
theorem runOp_of_released {s : State} (h : s.thnd = .released) (op : HostOp) :
    runOp op s = .refused .afterRelease := if_pos h

theorem runOp_closesAtRelease (op : HostOp) (s : State) : ClosesAtRelease s (runOp op s) := by
  cases hthnd : s.thnd with
  | released => simp [runOp_of_released hthnd]
  | held => simpa [runOp, hthnd] using (runHeld_answers op s).closesAtRelease hthnd

theorem idleStep_closesAtRelease (s : State) : ClosesAtRelease s (idleStep s) := by
  unfold idleStep
  split
  · simp
  · exact runOp_closesAtRelease _ _

theorem whenFree_closesAtRelease {s : State} {k : State → Answer} (hk : ClosesAtRelease s (k s)) :
    ClosesAtRelease s (whenFree s k) := by
  obtain ⟨-, h⟩ | ⟨-, -, h⟩ | ⟨-, -, h⟩ := whenFree_cases s k <;> simp [h, hk]

/-- R297: S1 to S5 ask the transport whether it is open and write to it. -/
theorem transmit_closesAtRelease (addr cmd : Byte) (payload : Bytes) (h : Handler) (s : State) :
    ClosesAtRelease s (transmit addr cmd payload h s) := by
  refine whenFree_closesAtRelease ?_
  obtain ⟨-, heq⟩ | ⟨-, -, heq⟩ | ⟨-, -, heq⟩ := sendRequest_cases addr cmd payload h s
  · simp [heq]
  · simp [heq]
  · rw [heq]
    obtain ⟨-, hwrite⟩ | ⟨e, -, hwrite⟩ | ⟨-, hwrite⟩ :=
      writeRequest_cases addr cmd h (frameBytes addr cmd payload) s.started.askOpen.flush <;> simp [hwrite]

theorem refuseRequest_closesAtRelease (e : EncodingError) (s : State) : ClosesAtRelease s (refuseRequest e s) :=
  whenFree_closesAtRelease (by simp)

theorem moveStep_closesAtRelease (s : State) : ClosesAtRelease s (moveStep s) := by
  have hwait : s.pos.waiting = true → ClosesAtRelease s (moveStep s) :=
    fun hw => (moveStep_waitAnswer hw).closesAtRelease
  cases hpos : s.pos with
  | idle => simpa only [moveStep, hpos] using idleStep_closesAtRelease s
  | send =>
    simp only [moveStep, hpos]
    obtain ⟨addr, cmd, payload, hnd, heq⟩ | ⟨e, heq⟩ := sendStep_cases s
    · exact heq ▸ transmit_closesAtRelease addr cmd payload hnd s
    · exact heq ▸ refuseRequest_closesAtRelease e s
  | sendDirect =>
    simp only [moveStep, hpos]
    exact transmit_closesAtRelease s.txr.addr s.txr.cmd s.txr.payload s.hnd s
  | parse | deadline | read => exact hwait (by rw [hpos]; rfl)

/-- R364: a step calls `close()` exactly when it releases the handle. -/
theorem step_closesAtRelease (s : State) : ClosesAtRelease s (step s) := by
  intro t hstep
  cases ha : s.aside.headD none with
  | some op =>
    obtain ⟨r, rfl⟩ := step_of_asked ha hstep
    exact .inl ⟨rfl, rfl⟩
  | none => exact moveStep_closesAtRelease s.takeTurn t (step_of_not_asked ha hstep)

/-- Settles O45: `close()` is called with the release of the held handle alone, and a released one refuses each
operation. -/
theorem closeIsCalledOnceAtRelease : Obligations.CloseIsCalledOnceAtRelease := by
  refine ⟨fun s t hs hstep => ?_, fun s₀ s op rest hturn hpos hrel hops => ?_, fun s op hw hrel ha => ?_⟩
  · obtain ⟨hthnd, hcloses⟩ | ⟨hheld, hrel, hcloses⟩ := step_closesAtRelease s t hstep
    · rw [hcloses, hthnd, hs]
    · simp [hcloses, hs, hheld, hrel]
  · rw [step_of_turn hturn, moveStep, hpos]
    simp only [idleStep, hops]
    exact runOp_of_released (s := { s with ops := rest }) hrel op
  · obtain ⟨op', -, heq⟩ | ⟨hnone, -⟩ := step_of_wf hw
    · exact heq ▸ runOp_of_released (s := s.takeTurn) hrel _
    · cases ha.symm.trans hnone

/-! ## What a parse leaves of a drained buffer and one chunk (R136 to R138, R374) -/

/-- R137, R374: no parse of drained bytes finds a whole candidate. -/
theorem Drained.stops {m : Nat} {b : Bytes} (h : Drained m b) : (tryParse b).Stops := by
  obtain rfl | rfl | ⟨-, -, -, -, hincomplete⟩ := h
  · exact .inr rfl
  · exact .inr rfl
  · exact .inl hincomplete

/-- R374: drained bytes, with the room of a whole frame but one byte behind their noise. -/
theorem Drained.length_lt {m : Nat} {b : Bytes} (h : Drained m b) (hm : 0 < m) : b.length < m + 260 := by
  obtain rfl | rfl | ⟨k, -, hk, hlen, -⟩ := h
  · rw [List.length_nil]
    omega
  · rw [List.length_singleton]
    omega
  · omega

theorem Drained.reached {m : Nat} {b : Bytes} (h : Drained m b) : Reached m b :=
  ⟨b, [], h, Nat.zero_le m, (List.append_nil b).symm⟩

theorem reached_nil (m : Nat) : Reached m [] := Drained.reached (.inl rfl)

/-- R131: the whole header lies in the bytes. -/
theorem lt_length_of_findHeader {b : Bytes} {h : Nat} (hh : findHeader b = some h) : h + 1 < b.length := by
  obtain ⟨⟨-, hsecond⟩, -⟩ := (findHeader_eq_some_iff b h).mp hh
  exact (List.getElem?_eq_some_iff.mp hsecond).1

/-- R134, R135: a candidate taken is consumed with the bytes before it. -/
theorem consumed_of_takesCandidate {b : Bytes} (hb : (tryParse b).TakesCandidate) :
    ∃ h, findHeader b = some h ∧ (tryParse b).consumed = h + (6 + (byteAt b (h + 4)).toNat) := by
  obtain ⟨-, hp⟩ | ⟨_, -, -, hp⟩ | ⟨h, hh, -, -, hp⟩ | ⟨h, hh, -, -, hp⟩ := tryParse_cases b
  · simp [ParseResult.TakesCandidate, hp] at hb
  · simp [ParseResult.TakesCandidate, hp] at hb
  all_goals exact ⟨h, hh, by rw [hp]⟩

theorem byteAt_append_of_lt {b : Bytes} {i : Nat} (hi : i < b.length) (more : Bytes) :
    byteAt (b ++ more) i = byteAt b i :=
  List.getD_append b more 0#8 i hi

/-- R136 to R138: where no candidate was whole, one that is whole now ends in the bytes that came later. -/
theorem length_le_consumed_of_stops {old chunk : Bytes} (hold : (tryParse old).Stops)
    (hb : (tryParse (old ++ chunk)).TakesCandidate) : old.length ≤ (tryParse (old ++ chunk)).consumed := by
  obtain ⟨h, hh, hconsumed⟩ := consumed_of_takesCandidate hb
  rw [hconsumed]
  obtain ⟨hnone, -⟩ | ⟨k, hk, hshort, -⟩ := tryParse_cases_of_stops hold
  · by_contra hlt
    have hat : HeaderAt old h :=
      (headerAt_append_iff (by omega) chunk).mp ((findHeader_eq_some_iff _ h).mp hh).1
    exact (findHeader_eq_none_iff old).mp hnone h hat
  · obtain rfl : k = h := Option.some.inj ((findHeader_append_of_some hk chunk).symm.trans hh)
    by_cases hlen : k + 4 < old.length
    · rw [byteAt_append_of_lt hlen]
      omega
    · omega

/-- R374: after a drained buffer and a chunk of `m` bytes, fewer than `m` bytes stand before the leftmost header. -/
theorem Drained.header_lt {m : Nat} {old chunk : Bytes} (hold : Drained m old) (hchunk : chunk.length ≤ m) {h : Nat}
    (hh : findHeader (old ++ chunk) = some h) : h < m := by
  have hlt := lt_length_of_findHeader hh
  rw [List.length_append] at hlt
  obtain rfl | rfl | ⟨k, hk, hkm, -⟩ := hold
  · rw [List.length_nil] at hlt
    omega
  · rw [List.length_singleton] at hlt
    omega
  · exact Option.some.inj ((findHeader_append_of_some hk chunk).symm.trans hh) ▸ hkm

/-- R374: a parse that stops leaves drained bytes. -/
theorem Reached.drained {m : Nat} {b : Bytes} (h : Reached m b) (hb : (tryParse b).Stops) :
    Drained m (b.drop (tryParse b).consumed) := by
  obtain ⟨old, chunk, hold, hchunk, rfl⟩ := h
  obtain ⟨-, hp⟩ | ⟨k, hk, hshort, hp⟩ := tryParse_cases_of_stops hb
  · rw [hp]
    obtain hleft | hleft := drop_noHeaderConsumed (old ++ chunk)
    · exact .inl hleft
    · exact .inr (.inl hleft)
  · have hbyte := (byteAt (old ++ chunk) (k + 4)).isLt
    have hdrop : (old ++ chunk).drop (tryParse (old ++ chunk)).consumed = old ++ chunk := by rw [hp]; rfl
    rw [hdrop]
    exact .inr (.inr ⟨k, hk, hold.header_lt hchunk hk, by omega, by rw [hp]⟩)

/-- R374: a parse that takes a candidate leaves a part of the chunk. -/
theorem Reached.of_takesCandidate {m : Nat} {b : Bytes} (h : Reached m b) (hb : (tryParse b).TakesCandidate) :
    Reached m (b.drop (tryParse b).consumed) := by
  obtain ⟨old, chunk, hold, hchunk, rfl⟩ := h
  have hle := length_le_consumed_of_stops hold.stops hb
  refine ⟨[], chunk.drop ((tryParse (old ++ chunk)).consumed - old.length), .inl rfl, ?_, ?_⟩
  · rw [List.length_drop]
    omega
  · rw [List.drop_append, List.drop_eq_nil_of_le hle]

/-- R140, R374: PARSE_STEP. -/
theorem Reached.parse {m : Nat} {b : Bytes} (h : Reached m b) : Reached m (b.drop (tryParse b).consumed) := by
  obtain ⟨hb, -⟩ | ⟨hb, -⟩ := tryParse_takesCandidate_or_stops b
  · exact h.of_takesCandidate hb
  · exact (h.drained hb).reached

/-- R141, R374: DRAIN. -/
theorem Reached.drain {m : Nat} {s : State} (h : Reached m s.rxbuf) : Reached m s.drain.2.rxbuf := by
  induction s using drain_induction with
  | takes s hb ih =>
    rw [drain_of_takesCandidate hb]
    exact ih (by simpa using h.parse)
  | stops s hb =>
    rw [drain_of_stops hb]
    simpa using h.parse

/-! ## What keeps the bound's invariant (R374) -/

/-- R374: only `RXBUF`, SEQR's position, `READ_MAX` and HOST's operations count. -/
theorem State.BufInv.of_reached {s t : State} (h : s.BufInv) (hreached : Reached s.par.readMax t.rxbuf)
    (hdrained : t.pos = .deadline ∨ t.pos = .read → Drained s.par.readMax t.rxbuf)
    (hpar : t.par = s.par := by simp) (hops : t.ops = s.ops := by simp) : t.BufInv := by
  obtain ⟨hpush, hmax, -, -⟩ := h
  rw [← hops] at hpush
  rw [← hpar] at hmax hreached hdrained
  exact ⟨hpush, hmax, hreached, hdrained⟩

theorem State.BufInv.reached {s : State} (h : s.BufInv) : Reached s.par.readMax s.rxbuf := by
  obtain ⟨-, -, hreached, -⟩ := h
  exact hreached

theorem State.BufInv.readMax_pos {s : State} (h : s.BufInv) : 0 < s.par.readMax := by
  obtain ⟨-, hmax, -⟩ := h
  exact hmax

theorem State.BufInv.drained {s : State} (h : s.BufInv) (hpos : s.pos = .deadline ∨ s.pos = .read) :
    Drained s.par.readMax s.rxbuf := by
  obtain ⟨-, -, -, hdrained⟩ := h
  exact hdrained hpos

/-- R58: a result on the result port. -/
theorem State.BufInv.replied {s : State} (h : s.BufInv) (r : Reply) : (s.replied r).BufInv :=
  h.of_reached h.reached h.drained rfl rfl

theorem State.BufInv.takeTurn {s : State} (h : s.BufInv) : s.takeTurn.BufInv :=
  h.of_reached h.reached h.drained rfl rfl

/-- R350: the call that HOST makes next is taken. -/
theorem State.BufInv.takeOp {s : State} (h : s.BufInv) {op : HostOp} {rest : List HostOp} (hops : s.ops = op :: rest) :
    op.isPush = false ∧ ({ s with ops := rest } : State).BufInv := by
  obtain ⟨hpush, hmax, hreached, hdrained⟩ := h
  rw [hops, List.all_cons, Bool.and_eq_true, Bool.not_eq_true'] at hpush
  obtain ⟨hop, hrest⟩ := hpush
  exact ⟨hop, hrest, hmax, hreached, hdrained⟩

/-- R296: the flush empties `RXBUF` or leaves it. -/
theorem Reached.flush {m : Nat} {s : State} (h : Reached m s.rxbuf) : Reached m s.flush.rxbuf := by
  rw [State.flush_rxbuf]
  split
  · exact reached_nil m
  · exact h

/-- R374: if the answer is a next state, that state meets the bound's invariant. -/
def MeetsBufInv (a : Answer) : Prop := ∀ t, a = .next t → t.BufInv

@[simp] theorem meetsBufInv_next {t : State} : MeetsBufInv (.next t) ↔ t.BufInv := by simp [MeetsBufInv]

@[simp] theorem meetsBufInv_fault (f : Fault) : MeetsBufInv (.fault f) := by simp [MeetsBufInv]

@[simp] theorem meetsBufInv_refused (r : Refusal) : MeetsBufInv (.refused r) := by simp [MeetsBufInv]

/-- R374: away from S7 and S8 it is enough that TRANSACT reaches what `RXBUF` holds. -/
theorem State.BufInv.meets_next {s t : State} (h : s.BufInv) (hreached : Reached s.par.readMax t.rxbuf)
    (hpos : t.pos ≠ .deadline ∧ t.pos ≠ .read := by simp) (hpar : t.par = s.par := by simp)
    (hops : t.ops = s.ops := by simp) : MeetsBufInv (.next t) := by
  obtain ⟨hdeadline, hread⟩ := hpos
  exact meetsBufInv_next.mpr (h.of_reached hreached (fun hp => (hp.elim hdeadline hread).elim) hpar hops)

/-! ## Every answer keeps the bound's invariant (R374) -/

@[simp] theorem State.started_rxbuf (s : State) : s.started.rxbuf = s.rxbuf := rfl
@[simp] theorem State.started_ops (s : State) : s.started.ops = s.ops := rfl
@[simp] theorem State.replied_rxbuf (s : State) (r : Reply) : (s.replied r).rxbuf = s.rxbuf := rfl
@[simp] theorem State.replied_ops (s : State) (r : Reply) : (s.replied r).ops = s.ops := rfl
@[simp] theorem State.toSend_ops (s : State) (cmd : Byte) (payload : Bytes) (h : Handler) :
    (s.toSend cmd payload h).ops = s.ops := rfl
@[simp] theorem State.toSend_rxbuf (s : State) (cmd : Byte) (payload : Bytes) (h : Handler) :
    (s.toSend cmd payload h).rxbuf = s.rxbuf := rfl
@[simp] theorem State.toSend_pos (s : State) (cmd : Byte) (payload : Bytes) (h : Handler) :
    (s.toSend cmd payload h).pos = .send := rfl
@[simp] theorem drain_pos (s : State) : s.drain.2.pos = s.pos := by rw [drain_eq]
@[simp] theorem drain_ops (s : State) : s.drain.2.ops = s.ops := by rw [drain_eq]

theorem whenFree_meetsBufInv {s : State} {k : State → Answer} (hk : MeetsBufInv (k s)) :
    MeetsBufInv (whenFree s k) := by
  obtain ⟨-, h⟩ | ⟨-, -, h⟩ | ⟨-, -, h⟩ := whenFree_cases s k <;> simp [h, hk]

/-- R297 S1 to S5: the flush is all that happens to `RXBUF`. -/
theorem transmit_meetsBufInv {s : State} (hs : s.BufInv) (addr cmd : Byte) (payload : Bytes) (h : Handler) :
    MeetsBufInv (transmit addr cmd payload h s) := by
  refine whenFree_meetsBufInv ?_
  have hflushed : Reached s.par.readMax s.started.askOpen.flush.rxbuf := Reached.flush hs.reached
  obtain ⟨-, heq⟩ | ⟨-, -, heq⟩ | ⟨-, -, heq⟩ := sendRequest_cases addr cmd payload h s
  · exact heq ▸ hs.meets_next hs.reached
  · exact heq ▸ hs.meets_next hs.reached
  · rw [heq]
    obtain ⟨-, hwrite⟩ | ⟨e, -, hwrite⟩ | ⟨-, hwrite⟩ :=
      writeRequest_cases addr cmd h (frameBytes addr cmd payload) s.started.askOpen.flush
    · exact hwrite ▸ hs.meets_next hflushed
    · exact hwrite ▸ hs.meets_next hflushed
    · simp [hwrite]

theorem refuseRequest_meetsBufInv {s : State} (hs : s.BufInv) (e : EncodingError) :
    MeetsBufInv (refuseRequest e s) :=
  whenFree_meetsBufInv (hs.meets_next hs.reached)

theorem sendStep_meetsBufInv {s : State} (hs : s.BufInv) : MeetsBufInv (sendStep s) := by
  obtain ⟨addr, cmd, payload, h, heq⟩ | ⟨e, heq⟩ := sendStep_cases s
  · exact heq ▸ transmit_meetsBufInv hs addr cmd payload h
  · exact heq ▸ refuseRequest_meetsBufInv hs e

/-- R2, R374: the operations of an idle FC that do not push only shorten `RXBUF`. -/
theorem HeldAnswer.meetsBufInv {op : HostOp} {s : State} {a : Answer} (h : HeldAnswer s op a) (hs : s.BufInv)
    (hi : s.pos = .idle) (hop : op.isPush = false) : MeetsBufInv a := by
  have hpos : s.pos ≠ .deadline ∧ s.pos ≠ .read := by simp [hi]
  cases h with
  | pushed => cases hop
  | illFormed => exact meetsBufInv_refused _
  | result _ r => exact meetsBufInv_next.mpr (hs.replied r)
  | typed | direct => exact hs.meets_next hs.reached
  | fed => exact hs.meets_next hs.reached hpos
  | released => exact hs.meets_next hs.reached hpos
  | parsed buf => exact hs.meets_next (by simpa using hs.reached) (by simpa using hpos)
  | parseStepped => exact hs.meets_next (by simpa using hs.reached.parse) (by simpa using hpos)
  | drained => exact hs.meets_next hs.reached.drain (by simpa using hpos)

theorem idleStep_meetsBufInv {s : State} (hs : s.BufInv) (hi : s.pos = .idle) : MeetsBufInv (idleStep s) := by
  unfold idleStep
  split
  · exact meetsBufInv_next.mpr hs
  · next op rest hops =>
    obtain ⟨hop, htaken⟩ := hs.takeOp hops
    unfold runOp
    split
    · exact meetsBufInv_refused _
    · exact (runHeld_answers op _).meetsBufInv htaken hi hop

/-- R297 S6, S7: the parse that goes on to S7 leaves drained bytes. -/
theorem WaitAnswer.meetsBufInv {s : State} {a : Answer} (h : WaitAnswer s a) (hs : s.BufInv) (hpos : s.pos ≠ .read) :
    MeetsBufInv a := by
  have hparsed : Reached s.par.readMax s.parseStep.rxbuf := by simpa using hs.reached.parse
  cases h with
  | delivered => exact hs.meets_next hparsed
  | consumed hparse => exact hs.meets_next hparsed (by simp [hparse])
  | scanned _ hstops =>
    exact meetsBufInv_next.mpr (hs.of_reached hparsed fun _ => by simpa using hs.reached.drained hstops)
  | timedOut => exact hs.meets_next hs.reached
  | sampled hdeadline => exact meetsBufInv_next.mpr (hs.of_reached hs.reached fun _ => hs.drained (.inl hdeadline))
  | closed hread | readFailed _ hread | readHung hread | received _ hread => exact absurd hread hpos

/-- R297 S8: `READ_MAX` bytes at most come behind drained bytes. -/
theorem readStep_meetsBufInv {s : State} (hs : s.BufInv) (hpos : s.pos = .read) : MeetsBufInv (readStep s) := by
  cases ho : s.env.opens.now with
  | false => exact readStep_of_closed ho ▸ hs.meets_next hs.reached
  | true =>
    cases hread : s.env.reads.now with
    | hangs => simp [readStep_of_hangs ho hread]
    | fails e => exact readStep_of_fails ho hread ▸ hs.meets_next hs.reached
    | bytes chunk =>
      cases hpush : s.askOpen.callRead.rxPush (chunk.take s.par.readMax) with
      | none => exact readStep_of_overflow ho hread hpush ▸ hs.meets_next hs.reached
      | some t =>
        obtain ⟨-, rfl⟩ := rxPush_eq_some hpush
        exact readStep_of_pushed ho hread hpush ▸
          hs.meets_next ⟨s.rxbuf, _, hs.drained (.inr hpos), List.length_take_le _ chunk, rfl⟩

theorem moveStep_meetsBufInv {s : State} (hs : s.BufInv) : MeetsBufInv (moveStep s) := by
  unfold moveStep
  cases hpos : s.pos with
  | idle => exact idleStep_meetsBufInv hs hpos
  | send => exact sendStep_meetsBufInv hs
  | sendDirect => exact transmit_meetsBufInv hs s.txr.addr s.txr.cmd s.txr.payload s.hnd
  | parse => exact (parsePosStep_waitAnswer hpos).meetsBufInv hs (by simp [hpos])
  | deadline => exact (deadlineStep_waitAnswer hpos).meetsBufInv hs (by simp [hpos])
  | read => exact readStep_meetsBufInv hs hpos

/-- R374: every step keeps the bound's invariant. -/
theorem step_meetsBufInv {s : State} (hs : s.BufInv) : MeetsBufInv (step s) := by
  intro t hstep
  cases ha : s.aside.headD none with
  | some op =>
    obtain ⟨r, rfl⟩ := step_of_asked ha hstep
    exact hs.takeTurn.replied r
  | none => exact moveStep_meetsBufInv hs.takeTurn t (step_of_not_asked ha hstep)

/-- Settles O50: what a drain leaves is shorter than `READ_MAX + 260`, and at most one chunk stands behind it. -/
theorem receiveBufferStaysBounded : Obligations.ReceiveBufferStaysBounded := by
  refine ⟨fun s t hs hstep => step_meetsBufInv hs t hstep, fun s hs => ?_⟩
  obtain ⟨-, hmax, ⟨old, chunk, hold, hchunk, hrxbuf⟩, hdrained⟩ := hs
  have hlt := hold.length_lt hmax
  refine ⟨?_, fun hpos => (hdrained hpos).length_lt hmax⟩
  rw [hrxbuf, List.length_append]
  omega

/-! ## Which operations can end in RxOverflow (R130, R305, R331) -/

/-- R331: if the answer is a next state, RxOverflow is no result that it adds. -/
def NoOverflow (s : State) (a : Answer) : Prop := ∀ t, a = .next t → t.replies ≠ .hard .rxOverflow :: s.replies

@[simp] theorem noOverflow_next {s t : State} :
    NoOverflow s (.next t) ↔ t.replies ≠ .hard .rxOverflow :: s.replies := by
  simp [NoOverflow]

@[simp] theorem noOverflow_fault (s : State) (f : Fault) : NoOverflow s (.fault f) := by simp [NoOverflow]

@[simp] theorem noOverflow_refused (s : State) (r : Refusal) : NoOverflow s (.refused r) := by simp [NoOverflow]

/-- Only the results count, so the answer may be judged from any state that has them. -/
theorem NoOverflow.of_replies {s s' : State} {a : Answer} (h : NoOverflow s' a)
    (hr : s'.replies = s.replies := by simp) : NoOverflow s a := by
  simpa only [NoOverflow, hr] using h

@[simp] theorem State.started_replies (s : State) : s.started.replies = s.replies := rfl
@[simp] theorem State.replied_replies (s : State) (r : Reply) : (s.replied r).replies = r :: s.replies := rfl
@[simp] theorem drain_replies (s : State) : s.drain.2.replies = s.replies := by rw [drain_eq]

theorem noOverflow_of_replies_eq {s t : State} (h : t.replies = s.replies := by simp) : NoOverflow s (.next t) := by
  simp [h]

theorem answer_noOverflow (v : Value) (s : State) : NoOverflow s (answer v s) := by simp [answer]

theorem raiseEncoding_noOverflow (e : EncodingError) (s : State) : NoOverflow s (raiseEncoding e s) := by
  simp [raiseEncoding, encodingReply]

theorem startTransact_noOverflow (cmd : Byte) (h : Handler) (payload : Bytes) (s : State) :
    NoOverflow s (startTransact cmd h payload s) := noOverflow_of_replies_eq rfl

theorem packed_noOverflow {s : State} {k : Bytes → State → Answer} (hk : ∀ b, NoOverflow s (k b s))
    (p : Option Bytes) (e : EncodingError) : NoOverflow s (packed p e k s) := by
  cases p with
  | some b => exact hk b
  | none => exact raiseEncoding_noOverflow e s

/-- R186, R332: STATUS_CHECK accepts or rejects a status. -/
theorem statusCheck_ne_rxOverflow (par : Params) (payload : Bytes) : statusCheck par payload ≠ .hard .rxOverflow := by
  obtain ⟨-, h⟩ | ⟨_, -, h⟩ | ⟨_, _, -, -, h⟩ := statusReplyIs_statusCheck par payload <;> simp [h]

/-- R187, R303: a response ends its transaction with a value or a SoftFailure. -/
theorem handleReply_ne_rxOverflow (par : Params) (h : Handler) (payload : Bytes) :
    handleReply par h payload ≠ .hard .rxOverflow := by
  cases h with
  | status => exact statusCheck_ne_rxOverflow par payload
  | info =>
    simp only [handleReply, infoReply]
    split <;> simp
  | config =>
    simp only [handleReply, configReply]
    split <;> simp
  | usbString slot =>
    simp only [handleReply, usbStringReply]
    split
    · simp
    · split <;> simp

/-- R58, R324, R326: a pure function returns a value, an EncodingError or a DecodeError. -/
theorem runPure_noOverflow (op : PureOp) (s : State) : NoOverflow s (runPure op s) := by
  cases op with
  | sum8 | validFrame | findHeader | correlate | cfgGet | zpad | zstrip => exact answer_noOverflow _ s
  | statusCheck payload => simpa [runPure] using statusCheck_ne_rxOverflow s.par payload
  | encode | strEncode =>
    simp only [runPure, opEncode, opStrEncode]
    split
    · exact raiseEncoding_noOverflow _ s
    · exact answer_noOverflow _ s
  | cfgSet =>
    simp only [runPure, opCfgSet]
    split
    · exact answer_noOverflow _ s
    · exact raiseEncoding_noOverflow _ s
  | cfgDecode | infoDecode =>
    simp only [runPure, opCfgDecode, opInfoDecode]
    split
    · exact answer_noOverflow _ s
    · simp
  | strDecode =>
    simp only [runPure, opStrDecode]
    split
    · simp
    · exact answer_noOverflow _ s
  | cfgEncode c =>
    simp only [runPure, opCfgEncode]
    split
    · exact answer_noOverflow _ s
    · exact noOverflow_refused s _
  | kbPack | msRelPack | msAbsPack => exact packed_noOverflow (fun b => answer_noOverflow (.bytes b) s) _ _

/-- R2, R331: of HOST's operations only RX_PUSH can end in RxOverflow. -/
theorem runHeld_noOverflow {op : HostOp} (hop : op.isPush = false) (s : State) : NoOverflow s (runHeld op s) := by
  cases op with
  | rxPush => cases hop
  | pure op => exact runPure_noOverflow op s
  | tryParse | tryParseOf | parseStep | drain | serialFeed | release =>
    exact (answer_noOverflow _ _).of_replies
  | transact => exact noOverflow_of_replies_eq rfl
  | getInfo | getConfig | setConfigToDefault | chipReset => exact startTransact_noOverflow _ _ _ s
  | sendKeyboard | sendMouseRel | sendMouseAbs =>
    exact packed_noOverflow (fun b => startTransact_noOverflow _ _ b s) _ _
  | setConfig c =>
    simp only [runHeld, opSetConfig]
    split
    · exact startTransact_noOverflow _ _ _ s
    · exact noOverflow_refused s _
  | getUsbDescriptor slot =>
    simp only [runHeld, opGetUsbDescriptor]
    split
    · exact raiseEncoding_noOverflow _ s
    · exact startTransact_noOverflow _ _ _ s
  | setUsbDescriptor slot text =>
    simp only [runHeld, opSetUsbDescriptor]
    split
    · exact raiseEncoding_noOverflow _ s
    · exact startTransact_noOverflow _ _ _ s

theorem runOp_noOverflow {op : HostOp} (hop : op.isPush = false) (s : State) : NoOverflow s (runOp op s) := by
  unfold runOp
  split
  · exact noOverflow_refused s _
  · exact runHeld_noOverflow hop s

theorem idleStep_noOverflow {s : State} (hs : s.BufInv) : NoOverflow s (idleStep s) := by
  unfold idleStep
  split
  · exact noOverflow_of_replies_eq
  · next hops =>
    obtain ⟨hop, -⟩ := hs.takeOp hops
    exact (runOp_noOverflow hop _).of_replies rfl

theorem whenFree_noOverflow {s : State} {k : State → Answer} (hk : NoOverflow s (k s)) :
    NoOverflow s (whenFree s k) := by
  obtain ⟨-, h⟩ | ⟨-, -, h⟩ | ⟨-, -, h⟩ := whenFree_cases s k <;> simp [h, hk]

/-- R297 S1 to S5: an EncodingError or a transport's failure is all that can end the transaction. -/
theorem transmit_noOverflow (addr cmd : Byte) (payload : Bytes) (h : Handler) (s : State) :
    NoOverflow s (transmit addr cmd payload h s) := by
  refine whenFree_noOverflow ?_
  obtain ⟨-, heq⟩ | ⟨-, -, heq⟩ | ⟨-, -, heq⟩ := sendRequest_cases addr cmd payload h s
  · simp [heq, encodingReply]
  · simp [heq, transportReply]
  · rw [heq]
    obtain ⟨-, hwrite⟩ | ⟨e, -, hwrite⟩ | ⟨-, hwrite⟩ :=
      writeRequest_cases addr cmd h (frameBytes addr cmd payload) s.started.askOpen.flush <;>
      simp [hwrite, transportReply]

theorem refuseRequest_noOverflow (e : EncodingError) (s : State) : NoOverflow s (refuseRequest e s) :=
  whenFree_noOverflow (by simp [encodingReply])

theorem sendStep_noOverflow (s : State) : NoOverflow s (sendStep s) := by
  obtain ⟨addr, cmd, payload, h, heq⟩ | ⟨e, heq⟩ := sendStep_cases s
  · exact heq ▸ transmit_noOverflow addr cmd payload h s
  · exact heq ▸ refuseRequest_noOverflow e s

/-- R297 S6: a frame is dropped, or ends the transaction with its handler's reply. -/
theorem parsePosStep_noOverflow {s : State} (hc : s.par.codesOk = true) : NoOverflow s (parsePosStep s) := by
  cases hf : (tryParse s.rxbuf).frame with
  | some f =>
    obtain ⟨hp, -⟩ := drop_eq_frameBytes_of_tryParse hf
    rw [parsePosStep_of_frame hf, takeFrame_eq_respond_handleReply (by simpa using hc) hp]
    obtain ⟨p, -, -, heq⟩ | ⟨-, heq⟩ :=
      respond_cases (rfl : respond f.addr f.cmd (handleReply s.parseStep.par s.parseStep.hnd f.payload) s.parseStep = _)
    · rw [heq]
      simpa using handleReply_ne_rxOverflow s.par s.hnd f.payload
    · exact heq ▸ noOverflow_of_replies_eq
  | none =>
    simp only [parsePosStep, hf]
    split <;> exact noOverflow_of_replies_eq

theorem deadlineStep_noOverflow (s : State) : NoOverflow s (deadlineStep s) := by
  unfold deadlineStep
  split
  · simp
  · exact noOverflow_of_replies_eq

/-- R299, R374: drained bytes and one chunk fit a large capacity. -/
theorem readStep_noOverflow {s : State} (hs : s.BufInv) (hpos : s.pos = .read) {c : Nat}
    (hcap : s.par.rxbufCap = some c) (hc : 2 * s.par.readMax + 260 ≤ c) : NoOverflow s (readStep s) := by
  cases ho : s.env.opens.now with
  | false => simp [readStep_of_closed ho, transportReply]
  | true =>
    cases hread : s.env.reads.now with
    | hangs => simp [readStep_of_hangs ho hread]
    | fails e => simp [readStep_of_fails ho hread, transportReply]
    | bytes chunk =>
      have hfits : ∀ cap, s.par.rxbufCap = some cap →
          s.rxbuf.length + (chunk.take s.par.readMax).length ≤ cap := by
        intro cap hcap'
        obtain rfl : c = cap := Option.some.inj (hcap.symm.trans hcap')
        have hlt := (hs.drained (.inr hpos)).length_lt hs.readMax_pos
        have hchunk := List.length_take_le s.par.readMax chunk
        omega
      rw [readStep_of_pushed ho hread (rxPush_of_fits (s := s.askOpen.callRead) hfits)]
      exact noOverflow_of_replies_eq

theorem moveStep_noOverflow {s : State} (hs : s.BufInv) (hw : s.par.wf = true) {c : Nat}
    (hcap : s.par.rxbufCap = some c) (hc : 2 * s.par.readMax + 260 ≤ c) : NoOverflow s (moveStep s) := by
  obtain ⟨-, hcodes, -⟩ := s.par.wf_iff.mp hw
  unfold moveStep
  cases hpos : s.pos with
  | idle => exact idleStep_noOverflow hs
  | send => exact sendStep_noOverflow s
  | sendDirect => exact transmit_noOverflow s.txr.addr s.txr.cmd s.txr.payload s.hnd s
  | parse => exact parsePosStep_noOverflow hcodes
  | deadline => exact deadlineStep_noOverflow s
  | read => exact readStep_noOverflow hs hpos hcap hc

/-- Settles O51: without a direct RX_PUSH only S8 appends to `RXBUF`, and there what it appends fits. -/
theorem largeCapacityNeverOverflows : Obligations.LargeCapacityNeverOverflows := by
  intro s t c hs hcap hc hstep
  suffices h : NoOverflow s (step s) from h t hstep
  cases hw : s.par.wf with
  | false => simp [step_of_not_wf hw]
  | true =>
    obtain ⟨op, -, heq⟩ | ⟨-, heq⟩ := step_of_wf hw
    · exact heq ▸ (runOp_noOverflow (op := .pure op) rfl s.takeTurn).of_replies rfl
    · exact heq ▸ (moveStep_noOverflow hs.takeTurn hw hcap hc).of_replies rfl

end Sys2Proof.Machine

/-! # Proofs for spec/41_frame_parse.md: a parse without a header (R138) -/

namespace Sys2Proof.Machine

/-- Settles O16: no header begins in the bytes that the parse consumes, whatever comes later. -/
theorem noHeaderKeepsAFinalHeaderByte : Obligations.NoHeaderKeepsAFinalHeaderByte := by
  intro b more hb
  have hp : tryParse b = ⟨none, noHeaderConsumed b, .noHeader⟩ := by simp only [tryParse, hb]
  rw [hp]
  refine ⟨rfl, rfl, rfl, ?_⟩
  rw [findHeader_of_noHeaderBefore (noHeaderBefore_noHeaderConsumed hb more),
    List.drop_append_of_le_length (noHeaderConsumed_le b)]

end Sys2Proof.Machine

/-! # Proofs for spec/42_commands.md: the two USB string requests (R178, R180) -/

namespace Sys2Proof.Machine

/-! ## The selector and the text (R178, R180, R242, R243) -/

theorem slotOf_eq_none {data : Bytes} (h : data = [] ∨ ∃ slot rest, data = slot :: rest ∧ 2 < slot.toNat) :
    slotOf data = none := by
  obtain rfl | ⟨slot, rest, rfl, hslot⟩ := h
  · rfl
  · exact if_neg hslot.not_ge

theorem refuseRequest_of_ready {s : State} (h : s.Ready) (e : EncodingError) :
    refuseRequest e s = .next (s.dropTxr.ended (.hard (.encoding e))) := whenFree_of_ready h _

/-- Settles O25: the selector is checked, then S1 to S5 send the frame. -/
theorem getUsbStringRequestIsSentOrRefused : Obligations.GetUsbStringRequestIsSentOrRefused := by
  refine fun s addr data hready => ⟨?_, fun hbad => ?_⟩
  · rintro slot rest rfl hslot hlen hopen hwrite
    simp only [exec, execReqGetUsbString, slotOf_cons hslot]
    exact transmit_sent hready hlen hopen hwrite
  · simp only [exec, execReqGetUsbString, slotOf_eq_none hbad]
    exact refuseRequest_of_ready hready _

section
variable {s : State} {addr : Byte}

theorem exec_reqSetUsbString_of_badSlot (hs : s.Ready) {data : Bytes}
    (h : data = [] ∨ ∃ slot rest, data = slot :: rest ∧ 2 < slot.toNat) :
    exec (.reqSetUsbString addr data) s = .next (s.dropTxr.ended (.hard (.encoding .badSlot))) := by
  simp only [exec, execReqSetUsbString, slotOf_eq_none h]
  exact refuseRequest_of_ready hs _

theorem exec_reqSetUsbString_of_tooLong (hs : s.Ready) {slot : Byte} {rest : Bytes} (hslot : slot.toNat ≤ 2)
    (hlen : s.par.strMax + 2 < (slot :: rest).length) :
    exec (.reqSetUsbString addr (slot :: rest)) s =
      .next (s.dropTxr.ended (.hard (.encoding .stringTooLong))) := by
  simp only [exec, execReqSetUsbString, slotOf_cons hslot, if_pos hlen]
  exact refuseRequest_of_ready hs _

/-- R12, R180: a text within `STR_MAX` fits a frame. -/
theorem exec_reqSetUsbString_of_admitted (hs : s.Ready) (hw : s.par.wf = true) {slot : Byte} {rest : Bytes}
    (hslot : slot.toNat ≤ 2) (hlen : (slot :: rest).length ≤ s.par.strMax + 2) (hopen : s.env.opens.now = true)
    (hwrite : s.env.writes.now = .ok) :
    exec (.reqSetUsbString addr (slot :: rest)) s =
      .next (s.sent addr s.par.cmdSetUsbString (slot :: rest) .status) := by
  obtain ⟨-, -, -, -, -, -, -, hmax, -⟩ := s.par.wf_iff.mp hw
  simp only [exec, execReqSetUsbString, slotOf_cons hslot, if_neg hlen.not_gt]
  exact transmit_sent hs (hlen.trans hmax) hopen hwrite

end

/-- Settles O26: the selector is checked, then the length of the text, and then S1 to S5 send the frame. -/
theorem setUsbStringRequestIsSentOrRefused : Obligations.SetUsbStringRequestIsSentOrRefused := by
  intro s addr slot len text hs hw
  refine ⟨fun hslot hlen => ?_, fun hslot => ?_, fun hslot hlen => ?_, ?_, fun hslot => ?_, fun hslot => ?_⟩
  · exact exec_reqSetUsbString_of_admitted hs hw hslot (by simpa using hlen)
  · exact exec_reqSetUsbString_of_badSlot hs (.inr ⟨slot, _, rfl, hslot⟩)
  · exact exec_reqSetUsbString_of_tooLong hs hslot (by simpa using hlen)
  · exact exec_reqSetUsbString_of_badSlot hs (.inl rfl)
  · exact exec_reqSetUsbString_of_badSlot hs (.inr ⟨slot, _, rfl, hslot⟩)
  · exact exec_reqSetUsbString_of_admitted hs hw hslot (by simp)

end Sys2Proof.Machine

/-! # Proofs for spec/43_config_codec.md: the views of DeviceConfig (R209 to R212), ZPAD and ZSTRIP (R214, R215) -/

namespace Sys2Proof.Machine

/-! ## ZPAD and ZSTRIP (R214, R215) -/

theorem zpad_of_le_length {b : Bytes} {w : Nat} (h : w ≤ b.length) : zpad b w = b.take w := if_pos h

theorem zpad_of_length_le {b : Bytes} {w : Nat} (h : b.length ≤ w) : zpad b w = b ++ rep 0x00#8 (w - b.length) := by
  rw [← zpad_length_add, Nat.add_sub_cancel' h]

/-- Settles O57: what ZSTRIP removes is a run of zeros, and a run of zeros is what ZPAD adds. -/
theorem stringsPadAndStrip : Obligations.StringsPadAndStrip := by
  refine ⟨fun b w => ⟨length_zpad b w, zpad_of_le_length, zpad_of_length_le⟩, fun raw => ?_, zpad_zstrip,
    fun b w hlen hlast => ?_⟩
  · obtain ⟨n, hn⟩ := exists_zstrip_append_zeros raw
    exact ⟨n, hn, getLast?_zstrip_ne raw⟩
  · rw [zstrip_zpad, List.take_of_length_le hlen, zstrip_of_getLast?_ne hlast]

/-! ## The numbers of DeviceConfig (R15, R209) -/

theorem leNat_toLe (n v : Nat) : leNat (toLe n v) = v % 256 ^ n := by
  induction n generalizing v with
  | zero => simp [toLe, leNat, Nat.mod_one]
  | succ n ih =>
    rw [toLe, leNat, ih, Nat.pow_succ', BitVec.toNat_ofNat]
    exact Nat.mod_mul.symm

theorem beNat_toBe (n v : Nat) : beNat (toBe n v) = v % 256 ^ n := by
  rw [beNat, toBe, List.reverse_reverse, leNat_toLe]

/-- R209: a number that fits its row is read back, in either order. -/
theorem numView_numBytes (k : CfgKind) {w v : Nat} (h : v < 256 ^ w) : numView k (numBytes k w v) = v := by
  have hbe : beNat (toBe w v) = v := (beNat_toBe w v).trans (Nat.mod_eq_of_lt h)
  have hle : leNat (toLe w v) = v := (leNat_toLe w v).trans (Nat.mod_eq_of_lt h)
  cases k with
  | bytes order => cases order <;> assumption
  | u8 | flag | mask | zstr | rsvd => exact hle

/-- R15: byte `k` of the little-endian form. -/
theorem toNat_of_getElem?_toLe {n v k : Nat} {b : Byte} (h : (toLe n v)[k]? = some b) :
    b.toNat = v / 256 ^ k % 256 := by
  induction n generalizing v k with
  | zero => cases h
  | succ n ih =>
    cases k with
    | zero =>
      obtain rfl : BitVec.ofNat 8 v = b := Option.some.inj h
      simp
    | succ k =>
      have h' : (toLe n (v / 256))[k]? = some b := h
      rw [ih h', Nat.div_div_eq_div_mul, Nat.pow_succ']

/-- R15: byte `k` of the big-endian form. -/
theorem toNat_of_getElem?_toBe {n v k : Nat} {b : Byte} (h : (toBe n v)[k]? = some b) :
    b.toNat = v / 256 ^ (n - 1 - k) % 256 := by
  have hk : k < (toLe n v).length := by
    obtain ⟨hk, -⟩ := List.getElem?_eq_some_iff.mp h
    simpa [toBe] using hk
  rw [toBe, List.getElem?_reverse hk, length_toLe] at h
  exact toNat_of_getElem?_toLe h

/-- R209: the bytes of a number in the order of its row. -/
theorem toNat_of_getElem?_numBytes {kind : CfgKind} {w v k : Nat} {b : Byte}
    (h : (numBytes kind w v)[k]? = some b) :
    (kind = .bytes .be → b.toNat = v / 256 ^ (w - 1 - k) % 256) ∧
    (kind = .bytes .le → b.toNat = v / 256 ^ k % 256) := by
  constructor
  · rintro rfl
    exact toNat_of_getElem?_toBe h
  · rintro rfl
    exact toNat_of_getElem?_toLe h

theorem numView_one (k : CfgKind) (b : Byte) : numView k [b] = b.toNat := by
  unfold numView
  split <;> simp [beNat, leNat]

section
variable {par : Params} {c : DeviceConfig} {f : NumField} {raw : Bytes}

theorem cfgGet_num_of_raw (h : cfgRaw c (numFieldOf f) = raw) :
    cfgGet par c (.num f) = .nat (numView (cfgRow par (numFieldOf f)).kind raw) := by
  rw [cfgGet, h]

theorem cfgGet_num_of_be (hraw : cfgRaw c (numFieldOf f) = raw)
    (hk : (cfgRow par (numFieldOf f)).kind = .bytes .be) : cfgGet par c (.num f) = .nat (beNat raw) := by
  rw [cfgGet_num_of_raw hraw, hk]
  rfl

theorem cfgGet_num_of_le (hraw : cfgRaw c (numFieldOf f) = raw)
    (hk : (cfgRow par (numFieldOf f)).kind = .bytes .le) : cfgGet par c (.num f) = .nat (leNat raw) := by
  rw [cfgGet_num_of_raw hraw, hk]
  rfl

theorem cfgSet_num_of_inRange {v : Int} (h0 : 0 ≤ v)
    (h : v < ((256 ^ (cfgRow par (numFieldOf f)).width : Nat) : Int)) :
    ∃ c', cfgSet par c (.num f v) = some c' := ⟨_, if_pos ⟨h0, h⟩⟩

theorem cfgSet_num_of_outOfRange {v : Int}
    (h : v < 0 ∨ ((256 ^ (cfgRow par (numFieldOf f)).width : Nat) : Int) ≤ v) :
    cfgSet par c (.num f v) = none := if_neg (by omega)

end

/-! ## Flags and descriptor flags (R210, R212) -/

theorem flagOf_flagByte (t : Bool) : flagOf (flagByte t) = t := by cases t <;> rfl

theorem cfgGet_flag_of_cfgSet (par : Params) (c : DeviceConfig) (f : FlagField) (t : Bool) :
    ∃ c', cfgSet par c (.flag f t) = some c' ∧ cfgGet par c' (.flag f) = .bool t := by
  refine ⟨_, rfl, ?_⟩
  cases f <;> exact congrArg Value.bool (flagOf_flagByte t)

/-- R212: a descriptor flag reads its own bit, and no two share one. -/
theorem cfgGet_desc_of_cfgSet {par : Params} (hw : par.wf = true) (c : DeviceConfig) (f : DescFlag) (t : Bool) :
    ∃ c', cfgSet par c (.desc f t) = some c' ∧ cfgGet par c' (.desc f) = .bool t ∧
      ∀ g, g ≠ f → cfgGet par c' (.desc g) = cfgGet par c (.desc g) := by
  obtain ⟨-, -, -, -, -, -, hbits, -⟩ := par.wf_iff.mp hw
  obtain ⟨m, hset, hm⟩ := cfgSet_desc hw c f t
  refine ⟨_, hset, ?_, fun g hg => ?_⟩
  · exact congrArg Value.bool ((hm _).trans (if_pos rfl))
  · exact congrArg Value.bool ((hm _).trans (if_neg (mt (descBit_inj hbits) hg)))

theorem cfgGet_str_of_cfgSet (par : Params) (c : DeviceConfig) (f : StrField) (b : Bytes) :
    ∃ c', cfgSet par c (.str f b) = some c' ∧ cfgGet par c' (.str f) = .bytes b := by
  cases f <;> exact ⟨_, rfl, rfl⟩

/-- Settles O56: CFG_SET puts the bytes of the value into the component it addresses, and CFG_GET reads them back. -/
theorem configGetAfterSet : Obligations.ConfigGetAfterSet := by
  intro par c hw
  obtain ⟨-, -, -, -, -, hl, -⟩ := par.wf_iff.mp hw
  have hstored {f : NumField} {v : Int} {c' : DeviceConfig} (h : cfgSet par c (.num f v) = some c') :
      cfgRaw c' (numFieldOf f) =
        numBytes (cfgRow par (numFieldOf f)).kind (cfgRow par (numFieldOf f)).width v.toNat :=
    cfgRaw_cfgSet_same hl h
  refine ⟨⟨rfl, rfl⟩, ⟨rfl, rfl, rfl⟩, ⟨rfl, rfl⟩, rfl, cfgRow_mem_and_field hl, fun f b h => ?one,
    fun f b₀ b₁ h => ⟨fun hk => ?be2, fun hk => ?le2⟩, fun f b₀ b₁ b₂ b₃ h => ⟨fun hk => ?be4, fun hk => ?le4⟩,
    fun f v c' h => ⟨?_, fun k b hb => ?bytes⟩, fun f v h0 hv => ?inRange,
    fun f v => cfgSet_num_of_outOfRange, cfgGet_flag_of_cfgSet par c, cfgGet_desc_of_cfgSet hw c,
    cfgGet_str_of_cfgSet par c⟩
  case one => rw [cfgGet_num_of_raw h, numView_one]
  case be2 | be4 =>
    rw [cfgGet_num_of_be h hk]
    simp only [beNat, List.reverse_cons, List.reverse_nil, List.nil_append, List.cons_append, leNat, Value.nat.injEq]
    omega
  case le2 | le4 =>
    rw [cfgGet_num_of_le h hk]
    simp only [leNat, Value.nat.injEq]
    omega
  · rw [hstored h, length_numBytes]
  case bytes => exact toNat_of_getElem?_numBytes (hstored h ▸ hb)
  case inRange =>
    obtain ⟨c', hset⟩ := cfgSet_num_of_inRange (c := c) h0 hv
    refine ⟨c', hset, ?_⟩
    rw [cfgGet_num_of_raw (hstored hset), numView_numBytes _ (by omega)]

end Sys2Proof.Machine

/-! # Proofs for spec/45_info_and_reports.md: the payloads of the three reports (R266, R270, R274) -/

namespace Sys2Proof.Machine

/-! ## The bytes of a number (R13, R15) -/

theorem toInt_tc8 {v : Int} (hmin : -128 ≤ v) (hmax : v ≤ 127) : (tc8 v).toInt = v := by
  rw [tc8, BitVec.toInt_ofInt]
  exact Int.bmod_eq_of_le (by omega) (by omega)

theorem toNat_ofInt_byte {v : Int} (h0 : 0 ≤ v) (hmax : v ≤ 255) : ((BitVec.ofInt 8 v).toNat : Int) = v := by
  rw [BitVec.toNat_ofInt]
  omega

theorem toLe_two (v : Nat) : toLe 2 v = [BitVec.ofNat 8 v, BitVec.ofNat 8 (v / 256)] := rfl

/-- R15: the low and the high byte of a 16-bit number. -/
theorem low_add_high {v : Int} (h0 : 0 ≤ v) (hmax : v ≤ 65535) :
    ((byteAt (toLe 2 v.toNat) 0).toNat : Int) + 256 * (byteAt (toLe 2 v.toNat) 1).toNat = v := by
  have hlt : v.toNat < 256 ^ 2 := by omega
  have hle : leNat (toLe 2 v.toNat) = v.toNat := (leNat_toLe 2 _).trans (Nat.mod_eq_of_lt hlt)
  rw [toLe_two] at hle ⊢
  simp only [leNat] at hle
  simp only [byteAt, List.getD_cons_zero, List.getD_cons_succ]
  omega

/-! ## The packers on operands in range (R266, R270, R274) -/

/-- R266: key slots, the free ones zero. -/
theorem map_byteAt_range {b : Bytes} {n : Nat} (h : b.length ≤ n) :
    (List.range n).map (byteAt b) = b ++ List.replicate (n - b.length) 0x00#8 := by
  refine List.ext_getElem (by simp [h]) fun i hi _ => ?_
  rw [List.getElem_map, List.getElem_range, List.getElem_append]
  split
  · next hlt => exact List.getD_eq_getElem _ _ hlt
  · next hge =>
    rw [List.getElem_replicate]
    exact List.getD_eq_default _ _ (Nat.le_of_not_lt hge)

theorem kbPack_default {r : KeyReport} (h : r.keycodes.length ≤ 6) :
    kbPack Params.default r =
      some ([r.modifierMask, 0x00#8] ++ r.keycodes ++ List.replicate (6 - r.keycodes.length) 0x00#8) := by
  have hkeys : ¬ maxKeys < r.keycodes.length := h.not_gt
  rw [kbPack, if_neg hkeys, List.append_assoc, ← map_byteAt_range h]
  rfl

theorem msRelPack_of_inRange {par : Params} {r : RelReport} (hdx : -128 ≤ r.dx ∧ r.dx ≤ 127)
    (hdy : -128 ≤ r.dy ∧ r.dy ≤ 127) (hw : -128 ≤ r.wheel ∧ r.wheel ≤ 127) (hb : 0 ≤ r.buttons ∧ r.buttons ≤ 255) :
    msRelPack par r = some (par.msRelLayout.map (msRelByte r)) := by
  rw [msRelPack, if_pos]
  simp only [Bool.and_eq_true, inI8_iff, inU8_iff]
  exact ⟨⟨⟨hdx, hdy⟩, hw⟩, hb⟩

theorem msAbsPack_of_inRange {par : Params} {r : AbsReport} (hx : 0 ≤ r.x ∧ r.x ≤ 65535)
    (hy : 0 ≤ r.y ∧ r.y ≤ 65535) (hw : -128 ≤ r.wheel ∧ r.wheel ≤ 127) (hb : 0 ≤ r.buttons ∧ r.buttons ≤ 255) :
    msAbsPack par r = some (par.msAbsLayout.map (msAbsByte r)) := by
  rw [msAbsPack, if_pos]
  simp only [Bool.and_eq_true, inI8_iff, inU8_iff, inU16_iff]
  exact ⟨⟨⟨hx, hy⟩, hw⟩, hb⟩

/-- Settles O60: each byte of a payload is the one that its place in the default layout holds. -/
theorem reportPayloads : Obligations.ReportPayloads := by
  refine ⟨fun r => kbPack_default, fun r hx0 hx hy0 hy hw0 hw hb0 hb => ?_,
    fun r hx0 hx hy0 hy hw0 hw hb0 hb => ?_⟩
  · exact ⟨_, _, _, _, msRelPack_of_inRange ⟨hx0, hx⟩ ⟨hy0, hy⟩ ⟨hw0, hw⟩ ⟨hb0, hb⟩, toNat_ofInt_byte hb0 hb,
      toInt_tc8 hx0 hx, toInt_tc8 hy0 hy, toInt_tc8 hw0 hw⟩
  · exact ⟨_, _, _, _, _, _, msAbsPack_of_inRange ⟨hx0, hx⟩ ⟨hy0, hy⟩ ⟨hw0, hw⟩ ⟨hb0, hb⟩,
      toNat_ofInt_byte hb0 hb, low_add_high hx0 hx, low_add_high hy0 hy, toInt_tc8 hw0 hw⟩

end Sys2Proof.Machine

/-! # Proofs for spec/95_test_vectors.md: the frames of V55 (R80, R87) -/

namespace Sys2Proof.Machine

/-- R80, R94: bytes that are the frame of a well-formed instruction decode to it, with nothing left. -/
theorem decode_default_of_encode {b : Bytes} {i : Instr} (hb : b = encode Params.default i)
    (hi : i.wellFormed Params.default = true) : decode Params.default b = .instr i [] := by
  have hw : Params.default.wf = true := by decide
  have hdecode := decodeOfEncodeGivesTheInstruction Params.default i [] hw hi
  rwa [List.append_nil, ← hb] at hdecode

/-- Settles O1: the bytes written out are the frames that ENCODE makes of the instructions. -/
theorem writtenOutFramesDecode : Obligations.WrittenOutFramesDecode :=
  ⟨decode_default_of_encode rfl rfl, decode_default_of_encode rfl rfl, decode_default_of_encode rfl rfl,
    decode_default_of_encode rfl rfl, decode_default_of_encode rfl rfl, decode_default_of_encode rfl rfl⟩

end Sys2Proof.Machine
